-- ==== Sys2Proof/Word.lean ====
section
/-! DEFINITION. The byte and word types of the link and the flash (00 Conventions, 11). -/

namespace Sys2Proof

/-- A byte of a frame or of the clip flash. -/
abbrev Byte := BitVec 8

/-- A two-byte field of a frame. -/
abbrev Word16 := BitVec 16

/-- A letter A to Z, numbered 0 to 25 (00 Conventions, Letters). -/
abbrev Letter := Fin 26

end Sys2Proof
end

