-- ==== Sys2Proof/Syntax.lean ====
section
/-! DEFINITION. The commands of the block: one constructor for each row of spec/opcode_table.json,
with the operands the row takes (11.5 for the requests, the pins and inputs for the events). -/

namespace Sys2Proof

/-- The link rate chosen by the RATE strap (00 Serial link in brief; 11.3). -/
inductive LinkRate where
  | r57600
  | r115200
  deriving DecidableEq, Repr

/-- The level of the headphone socket switch (R152). -/
inductive Jack where
  | out
  | inserted
  deriving DecidableEq, Repr

/-- The payload of WORD_PUT and WORD_PUT_IF as 11.5 lays it out; the spelling length byte is the
length of `spelling`. -/
structure WordWrite where
  index    : Byte
  flags    : Byte
  strain   : Word16
  wordClip : Word16
  sentClip : Word16
  group    : Byte
  spelling : List Byte
  deriving DecidableEq, Repr

/-- The two bytes read of the flash at a sample's address, in the order read; a PCM8 sample is the
first alone (R191). -/
structure SampleBytes where
  first  : Byte
  second : Byte
  deriving DecidableEq, Repr

/-- The requests of the host, without their tags (11.2, 11.5). -/
inductive Request where
  | hello
  | status (flags : Byte)
  | resetSoft
  | resetFull
  | set (id : Byte) (value : Word16)
  | get (id : Byte)
  | noticeMask (set : Word16)
  | wordPut (w : WordWrite)
  | wordPutIf (w : WordWrite)
  | wordGet (index flags : Byte)
  | wordDrop (index : Byte)
  | queueLoadList (indices : List Byte)
  | queueLoadGroups (groups : Byte)
  | queueAdd (index : Byte)
  | queueGet
  | start
  | freeStart
  | pause
  | resume
  | stop
  | lessonLimit (minutes : Word16)
  | judgementGet
  | slipGet
  | keymap (codes : List Byte)
  | keysets (accept wake : BitVec 48)
  | say (gap : Byte) (clips : List Word16)
  | hush
  | reloadClips
  | guardClear
  | audioGet (flags : Byte)
  | sleep
  deriving DecidableEq, Repr

/-- The commands. A request row carries the tag its frame has; an event row carries what the part
reads at that event. -/
inductive Instr where
  /-- POWER_ON_RESET: the levels of RATE and JACK read at the reset (R152, R181). -/
  | powerOnReset (rate : LinkRate) (jack : Jack)
  /-- PIN_RESET (R161, R181). -/
  | pinReset (rate : LinkRate) (jack : Jack)
  /-- RX_BYTE: a byte arrives on RXD (R171). -/
  | rxByte (b : Byte)
  /-- RX_TIMEOUT (R172). -/
  | rxTimeout
  /-- OVERFLOW_DISCARD_TIMEOUT (R173). -/
  | overflowDiscardTimeout
  /-- WAKE_FRAME_TIMEOUT (R167). -/
  | wakeFrameTimeout
  /-- TX_FRAME_DONE (R177). -/
  | txFrameDone
  /-- HELLO (R182). -/
  | hello (tag : Byte)
  /-- STATUS (R183). -/
  | status (tag flags : Byte)
  /-- RESET with option SOFT (R187). -/
  | resetSoft (tag : Byte)
  /-- RESET with option FULL (R188). -/
  | resetFull (tag : Byte)
  /-- SET (R185). -/
  | set (tag id : Byte) (value : Word16)
  /-- GET (R186). -/
  | get (tag id : Byte)
  /-- NOTICE_MASK (R180). -/
  | noticeMask (tag : Byte) (set : Word16)
  /-- A request frame whose kind names no request (R176). -/
  | unknownKind (kind tag : Byte) (payload : List Byte)
  /-- WORD_PUT (R12). -/
  | wordPut (tag : Byte) (w : WordWrite)
  /-- WORD_PUT_IF (R16). -/
  | wordPutIf (tag : Byte) (w : WordWrite)
  /-- WORD_GET (R13). -/
  | wordGet (tag index flags : Byte)
  /-- WORD_DROP (R18). -/
  | wordDrop (tag index : Byte)
  /-- QUEUE_LOAD by list (R66). -/
  | queueLoadList (tag : Byte) (indices : List Byte)
  /-- QUEUE_LOAD by group bitmap (R66). -/
  | queueLoadGroups (tag groups : Byte)
  /-- QUEUE_ADD (R67). -/
  | queueAdd (tag index : Byte)
  /-- QUEUE_GET (R68). -/
  | queueGet (tag : Byte)
  /-- START (R58). -/
  | start (tag : Byte)
  /-- FREE_START (R59). -/
  | freeStart (tag : Byte)
  /-- PAUSE (R79). -/
  | pause (tag : Byte)
  /-- RESUME (R82). -/
  | resume (tag : Byte)
  /-- STOP (R60). -/
  | stop (tag : Byte)
  /-- LESSON_LIMIT (R87). -/
  | lessonLimit (tag : Byte) (minutes : Word16)
  /-- JUDGEMENT_GET (R34). -/
  | judgementGet (tag : Byte)
  /-- SLIP_GET (R36). -/
  | slipGet (tag : Byte)
  /-- KEYMAP (R91). -/
  | keymap (tag : Byte) (codes : List Byte)
  /-- KEYSETS (R99): the acceptance and the wake code set, six bytes each. -/
  | keysets (tag : Byte) (accept wake : BitVec 48)
  /-- SAY (R135). -/
  | say (tag gap : Byte) (clips : List Word16)
  /-- HUSH (R136). -/
  | hush (tag : Byte)
  /-- RELOAD_CLIPS (R125). -/
  | reloadClips (tag : Byte)
  /-- GUARD_CLEAR (R160). -/
  | guardClear (tag : Byte)
  /-- AUDIO_GET (R151). -/
  | audioGet (tag flags : Byte)
  /-- SLEEP (R162). -/
  | sleep (tag : Byte)
  /-- DIRECTORY_READ_DONE: the bytes the flash returned from address 0 on (R124, R191). -/
  | directoryReadDone (bytes : List Byte)
  /-- KEY_SCAN: the raw levels of the 48 positions, a set bit for down (R89, R93). -/
  | keyScan (levels : BitVec 48)
  /-- SLOW_KEY_SCAN: the raw levels; only those of watched positions are read (R98). -/
  | slowKeyScan (levels : BitVec 48)
  /-- WAKE_SETTLE_END: the JACK level read then (R152, R168). -/
  | wakeSettleEnd (jack : Jack)
  /-- JACK_CHANGE: the new level, held for 20 ms (R152). -/
  | jackChange (jack : Jack)
  /-- LOAD_PROBE_DONE: the resistance found, in milliohms (R154). -/
  | loadProbeDone (milliohms : Nat)
  /-- SURGE_EVENT (R157). -/
  | surgeEvent
  /-- GAP_END (R129). -/
  | gapEnd
  /-- SAMPLE_OUT: the bytes that MISO gave for the sample (R130, R147, R191). -/
  | sampleOut (miso : SampleBytes)
  /-- ENTRY_END (R130). -/
  | entryEnd
  /-- LESSON_SECOND (R85). -/
  | lessonSecond
  /-- ATTENTION_NUDGE (R117). -/
  | attentionNudge
  /-- ATTENTION_PAUSE (R119). -/
  | attentionPause
  deriving DecidableEq, Repr

end Sys2Proof
end

