-- ==== Sys2Proof/Decode.lean ====
section
/-! DEFINITION. The command a word spells. No row of the command table carries bits: a command is a
byte or a frame of the link, an event of a pin, or an event of the part's own, so no word spells
one. The frames of the requests are read and written in Machine/Format.lean. -/

namespace Sys2Proof

/-- The command that a word spells by the table's bits: none, for the table gives no row bits. -/
def decodeTableWord (_nbits _w : Nat) : Option Instr := none

end Sys2Proof
end

