-- ==== Sys2Proof/Config.lean ====
section
/-! DEFINITION. The fixed sizes and tables of the part, and its one free value. -/

namespace Sys2Proof.Config

/-- Word slots (R1). -/
abbrev wordSlots : Nat := 96
/-- Places of the DRILL QUEUE, the current word included (R68). -/
abbrev queuePlaces : Nat := 32
/-- Entries of the UTTERANCE QUEUE (R128). -/
abbrev utterancePlaces : Nat := 12
/-- Events of the KEY FIFO (R100). -/
abbrev fifoPlaces : Nat := 8
/-- Notices of the REPORT QUEUE (R178). -/
abbrev reportPlaces : Nat := 16
/-- Letters of the ATTEMPT BUFFER (R105). -/
abbrev attemptPlaces : Nat := 16
/-- Bytes of the receive buffer (R173). -/
abbrev receiveBytes : Nat := 256
/-- Largest payload (R171). -/
abbrev maxPayload : Nat := 250
/-- Matrix positions (R89). -/
abbrev positions : Nat := 48
/-- Roles (R127). -/
abbrev roles : Nat := 70
/-- The start byte of a frame (R171). -/
abbrev startByte : Byte := 0xA5#8
/-- Design revision (R181). -/
abbrev revision : Byte := 3#8

/-- FREE VALUE (DESIGN CHOICE, notes/assumptions/12.md). What the flash returns for an address
beyond the bytes a directory read was given: "whatever that flash returns, and the reader takes them
as they come" (R121). Nothing constrains it. -/
opaque flashBeyond : Nat → Byte

end Sys2Proof.Config
end

