-- ==== Sys2Proof/Machine/State.lean ====
section
/-! DEFINITION. The state of the part, block by block (00 Block overview), and its value right after
a power-on reset. -/

namespace Sys2Proof.Machine

open Sys2Proof

/-! ## The link port (chapter 10) -/

/-- Result codes (00 Result codes, 11.3). -/
inductive Result where
  | ok | clamped | badArg | badKind | mode | full | inUse | lost | busy | audio | clips | limit | noWord
  deriving DecidableEq, Repr

/-- The content of a frame between its length byte and its check byte (R171). -/
structure Frame where
  kind    : Byte
  tag     : Byte
  payload : List Byte
  deriving DecidableEq, Repr

/-- What the receiver is doing. -/
inductive Receiver where
  /-- Hunting for a start byte (R171). -/
  | hunt
  /-- A frame in progress with the bytes it holds in the receive buffer, start byte first. -/
  | frame (bytes : List Byte)
  /-- After an overflow that lost the start byte: the length byte is still to come (R173). -/
  | discardLength
  /-- After an overflow: this many further bytes are discarded (R173). -/
  | discard (n : Nat)
  /-- After an overflow that lost the length byte: discarding until 10 ms pass (R173). -/
  | discardSilence
  /-- The waking frame, its length byte still to come (R167). -/
  | wakeLength
  /-- The waking frame: this many further bytes are discarded (R167). -/
  | wakeDiscard (n : Nat)
  deriving DecidableEq, Repr

/-- A frame being sent on TXD, whole (R177). -/
structure Sending where
  isReply : Bool
  bytes   : List Byte
  deriving DecidableEq, Repr

/-- A reset request waiting for its reply to leave (R187, R188). -/
inductive ResetKind where
  | soft | full
  deriving DecidableEq, Repr

/-- Cause of the reset that STARTED reports (R181). -/
inductive ResetCause where
  | power | pin
  deriving DecidableEq, Repr

/-- Causes of LINK_FAULT (R174). -/
inductive LinkCause where
  | check | timeout | overflow
  deriving DecidableEq, Repr

/-! ## Modes, phases and words (chapters 1 to 4) -/

inductive Mode where
  | setup | drill | free
  deriving DecidableEq, Repr

/-- The drill phase; `noPhase` in SETUP and FREE (R61). -/
inductive Phase where
  | noPhase | opening | present | listen | feedback | spellout | paused | finished
  deriving DecidableEq, Repr

/-- The pause reason; `noReason` outside PAUSED (R61). -/
inductive Reason where
  | noReason | request | attention | timeUp | audio
  deriving DecidableEq, Repr

inductive Verdict where
  | right | wrong
  deriving DecidableEq, Repr

/-- Standings of a word (R4). -/
inductive Standing where
  | fresh | practice | shaky | struggling | benched | mastered
  deriving DecidableEq, Repr

/-- A word record (R2). -/
structure WordRecord where
  spelling : List Letter
  wordClip : Nat
  sentClip : Option Nat
  group    : Nat
  enabled  : Bool
  strain   : Nat
  standing : Standing
  latch    : Bool
  streak   : Nat
  credit   : Nat
  judged   : Nat
  right    : Nat
  deriving DecidableEq, Repr

/-- The WORD BANK: 96 slots and the reservation slot (R1, R14). -/
structure WordBank where
  slots       : Vector (Option WordRecord) 96
  reservation : Option Nat
  deriving DecidableEq, Repr

/-- Kinds of slip (R31). -/
inductive SlipKind where
  | swapped | extra | missing | substitute
  deriving DecidableEq, Repr

/-- A slip; a field R31 calls absent is `none`. -/
structure Slip where
  kind      : SlipKind
  targetPos : Option Nat
  typedPos  : Option Nat
  expected  : Option Letter
  typed     : Option Letter
  deriving DecidableEq, Repr

/-- The last judgement record (R33); its slip count is the length of `slips`. -/
structure JudgementRecord where
  word    : Nat
  tryNo   : Nat
  verdict : Verdict
  attempt : List Letter
  slips   : List Slip
  deriving DecidableEq, Repr

/-- The slip capture record while HELD (R35). -/
structure CaptureRecord where
  word  : Nat
  tryNo : Nat
  first : Slip
  total : Nat
  deriving DecidableEq, Repr

/-- The JUDGE's records; `capture = none` is EMPTY (R33, R35). -/
structure Judge where
  last    : Option JudgementRecord
  capture : Option CaptureRecord
  deriving DecidableEq, Repr

/-! ## Keys (chapter 5) -/

/-- Key codes; `unmapped` is NONE of the key map (R90). -/
inductive KeyCode where
  | letter (l : Letter)
  | go | back | hint | repeatWord
  | panel (p : Fin 12)
  | unmapped
  deriving DecidableEq, Repr

/-- A key event of the KEY FIFO (R100). -/
inductive KeyEvent where
  | key (code : KeyCode) (pos : Nat)
  | mash
  deriving DecidableEq, Repr

/-- One matrix position: its debounced level and its debounce timer, which holds the time of the
scan that started it (R89, R92). -/
structure Position where
  down  : Bool
  timer : Option Nat
  deriving DecidableEq, Repr

/-- The KEY SCANNER. `firstScan` marks that the next full scan sets every level afresh (R93);
`scanTime` is the 1 ms time base as the scans read it. -/
structure KeyScanner where
  keys      : Vector Position 48
  firstScan : Bool
  scanTime  : Nat
  downCount : Nat
  lockout   : Bool
  keyMap    : Vector KeyCode 48
  accept    : BitVec 42
  wakeSet   : BitVec 42
  fifo      : List KeyEvent
  overrun   : Bool
  deriving DecidableEq, Repr

/-! ## Timers (chapters 4 and 6) -/

/-- The ATTENTION TIMER (R110). -/
structure AttentionTimer where
  elapsed    : Nat
  stage      : Nat
  lastLetter : Option Letter
  running    : Bool
  deriving DecidableEq, Repr

/-- The LESSON TIMER (R85). -/
structure LessonTimer where
  seconds : Nat
  part    : Nat
  timeUp  : Bool
  deriving DecidableEq, Repr

/-! ## Speech and clips (chapter 7) -/

/-- Directory states (R123). -/
inductive DirState where
  | unread | reading | ok | bad
  deriving DecidableEq, Repr

/-- Failing causes of a directory read (R124). -/
inductive DirFault where
  | signature | format | count | check
  deriving DecidableEq, Repr

/-- The CLIP STORE READER. `spi` is the read command of the transfer in progress, `none` with FCSn
high (R121). -/
structure ClipStore where
  dir   : DirState
  count : Nat
  roles : Vector Nat 70
  spi   : Option (List Byte)
  deriving DecidableEq, Repr

/-- The roles of R127. -/
inductive Role where
  | letterName (l : Letter)
  | letterSound (l : Letter)
  | praise (i : Fin 3)
  | almost | tryAgain | theWordIs | listenSpell | startsWith | nextLetter
  | oneKey | fullBuzz | backClick
  | nudge1 | nudge2 | timeUpBye | allDone | welcomeBack | notNow
  deriving DecidableEq, Repr

/-- Outcome of a SAY request (R137). -/
inductive SayOutcome where
  | played | cut | flushed
  deriving DecidableEq, Repr

/-- Classes of utterance entries; a SAID entry carries its tag, its last-of-request mark and its
request's outcome (R128). The outcome is held in the last entry; in another it is PLAYED while that
last entry stands in the queue, and the outcome reported once it has left
(notes/assumptions/33.md). -/
inductive EntryClass where
  | prompt | feedback | echo | nudge | cue
  | said (tag : Byte) (last : Bool) (outcome : SayOutcome)
  deriving DecidableEq, Repr

/-- An entry of the UTTERANCE QUEUE (R128). `scripted` marks an entry of the DRILL ENGINE's present
script (R69). -/
structure Entry where
  clip      : Nat
  cls       : EntryClass
  gap       : Nat
  skippable : Bool
  scripted  : Bool
  deriving DecidableEq, Repr

/-- What an entry of a script names: a role, or one of the word's own clips (R69). -/
inductive ClipSource where
  | role (r : Role)
  | clip (n : Nat)
  deriving DecidableEq, Repr

/-- An unplaced entry of a speech script (R69). -/
structure ScriptItem where
  source    : ClipSource
  cls       : EntryClass
  gap       : Nat
  skippable : Bool
  deriving DecidableEq, Repr

inductive Coding where
  | pcm8 | pcm16
  deriving DecidableEq, Repr

/-- The clip in PLAY: the clip number sounding, its directory fields, the samples handed over, and
whether it is the NOT_NOW clip of an entry refused its turn (R130, R135). -/
structure Playing where
  clip    : Nat
  coding  : Coding
  trim    : Int
  count   : Nat
  handed  : Nat
  refused : Bool
  deriving DecidableEq, Repr

/-- States of the SPEECH PLAYER (R129); GAP carries its gap timer in ms. -/
inductive Player where
  | idle
  | gap (ms : Nat)
  | play (p : Playing)
  | held
  deriving DecidableEq, Repr

/-- The UTTERANCE QUEUE, head first, and the SPEECH PLAYER. -/
structure Speech where
  queue  : List Entry
  player : Player
  deriving DecidableEq, Repr

/-! ## The drill engine (chapter 4) -/

/-- The current word slot with the state kept beside it (R63). -/
structure Current where
  word        : Nat
  tryNo       : Nat
  hints       : Nat
  spelledOut  : Bool
  lastVerdict : Option Verdict
  deriving DecidableEq, Repr

/-- The DRILL ENGINE with the DRILL QUEUE, its script and the ATTEMPT BUFFER. -/
structure Drill where
  mode    : Mode
  phase   : Phase
  reason  : Reason
  queue   : List Nat
  current : Option Current
  praise  : Fin 3
  script  : List ScriptItem
  attempt : List Letter
  deriving DecidableEq, Repr

/-! ## Output and power (chapters 8 and 9) -/

/-- Load kinds (R154). -/
inductive Load where
  | openLoad | speaker | phones
  deriving DecidableEq, Repr

/-- Probe states (R153). -/
inductive Probe where
  | idle | requested | running
  deriving DecidableEq, Repr

/-- The OUTPUT STAGE. `stale` marks a running probe that started before OPENING was entered (R62);
`aout` is the last sample output, `none` when AOP and AON are not driven. -/
structure OutputStage where
  load         : Load
  jack         : Jack
  probe        : Probe
  oneMore      : Bool
  stale        : Bool
  trimDown     : Nat
  tripped      : Bool
  surges       : Nat
  clipCount    : Nat
  clipOverflow : Bool
  clipped      : Bool
  aout         : Option Int
  deriving DecidableEq, Repr

inductive Power where
  | active | sleep
  deriving DecidableEq, Repr

inductive WakeReason where
  | none | key | link
  deriving DecidableEq, Repr

/-- The POWER CONTROLLER (R161); `wakeKey` is the code and position of the waking key (R166). -/
structure PowerControl where
  power        : Power
  settle       : Bool
  sleepPending : Bool
  wakeReason   : WakeReason
  wakeKey      : Option (KeyCode × Nat)
  slept        : Bool
  deriving DecidableEq, Repr

/-! ## Parameters (R184) -/

/-- The parameters of R184, in the order of their identifiers; enumerated ones by their codes. -/
structure Params where
  triesMax     : Nat
  gapRight     : Nat
  gapWrong     : Nat
  warnLimit    : Nat
  masterStreak : Nat
  benchReturn  : Nat
  returnCredit : Nat
  presentStyle : Nat
  attnPeriod   : Nat
  attnSleep    : Nat
  debounce     : Nat
  capSpeaker   : Nat
  capPhones    : Nat
  surgeLimit   : Nat
  surgeAction  : Nat
  echo         : Nat
  volume       : Nat
  autoTrim     : Nat
  lessonLimit  : Nat
  deriving DecidableEq, Repr

/-- The defaults of R184. -/
def Params.defaults : Params :=
  { triesMax := 3, gapRight := 8, gapWrong := 2, warnLimit := 48, masterStreak := 3,
    benchReturn := 1, returnCredit := 16, presentStyle := 1, attnPeriod := 20, attnSleep := 0,
    debounce := 15, capSpeaker := 31, capPhones := 18, surgeLimit := 2, surgeAction := 0,
    echo := 1, volume := 22, autoTrim := 1, lessonLimit := 0 }

/-! ## Notices (11.6) -/

/-- The notices, with what each carries. -/
inductive Notice where
  | started (rate : LinkRate) (cause : ResetCause)
  | clips (dir : DirState) (count : Nat) (cause : Option DirFault)
  | load (before after : Load) (jack : Jack)
  | guard (tripped : Bool) (trimDown clip : Nat)
  | phase (mode : Mode) (phase : Phase) (reason : Reason) (word : Option Nat)
  | verdict (word tryNo : Nat) (verdict : Verdict) (slips strain : Nat) (captured : Bool)
  | standing (word : Nat) (before after : Standing) (strain : Nat)
  | attention (stage : Nat) (word : Option Nat) (tryNo : Nat)
  | key (event : KeyEvent)
  | line (letters : List Letter)
  | speechDone (tag : Byte) (outcome : SayOutcome)
  | wake (reason : WakeReason) (key : Option (KeyCode × Nat))
  | linkFault (cause : LinkCause) (kind : Option Byte)
  | overrun
  deriving DecidableEq, Repr

/-- The LINK PORT. `frames` are the checked frames waiting in the receive buffer, oldest first; a
frame in progress stands in `rx`; `silence` counts the ms since the last byte. A set bit of `mask`
marks its notice kind enabled (DESIGN CHOICE, notes/assumptions/36.md). -/
structure LinkPort where
  rate         : LinkRate
  rx           : Receiver
  frames       : List Frame
  silence      : Nat
  reply        : Option Frame
  tx           : Option Sending
  report       : List Notice
  overrun      : Bool
  mask         : BitVec 14
  resetPending : Option ResetKind
  deriving DecidableEq, Repr

/-! ## The whole part -/

/-- The state of the part, with two things of the world beside it: `flash` is what the clip flash on
the SPI channel holds now, from address 0 on, which every read of it meets (R121; DESIGN CHOICE,
notes/assumptions/11.md), and `pending` is the queue of commands, first in, first out. -/
structure State where
  link    : LinkPort
  bank    : WordBank
  params  : Params
  drill   : Drill
  judge   : Judge
  keys    : KeyScanner
  attn    : AttentionTimer
  lesson  : LessonTimer
  clips   : ClipStore
  speech  : Speech
  out     : OutputStage
  power   : PowerControl
  flash   : List Byte
  pending : List Instr
  deriving DecidableEq, Repr

/-- The part has no fault that stops it: every command has a next state. -/
inductive Fault where
  deriving DecidableEq, Repr

/-- Refusals of the model. -/
inductive Refusal where
  /-- An instruction whose meaning is not modelled yet; raised by its arm of `exec` alone. Safe. -/
  | notModelled (mnemonic : String)
  deriving DecidableEq, Repr

/-! ## Reset values -/

/-- The key map after power-on reset, pin reset and FULL reset (R90). -/
def defaultKeyMap : Vector KeyCode 48 :=
  Vector.ofFn fun i =>
    if h : i.val < 26 then .letter ⟨i.val, h⟩
    else if i.val = 26 then .go
    else if i.val = 27 then .back
    else if i.val = 28 then .hint
    else if i.val = 29 then .repeatWord
    else if h : 30 ≤ i.val ∧ i.val < 42 then .panel ⟨i.val - 30, by omega⟩
    else .unmapped

/-- The wake set after power-on reset, pin reset and FULL reset: GO alone, bit 26 (R98, 11.3). -/
def defaultWakeSet : BitVec 42 := 0x4000000#42

/-- A directory read begins: READING with count 0 and every role 0, the transfer at address 0
(R123, R191). -/
def readingDirectory : ClipStore :=
  { dir := .reading, count := 0, roles := Vector.replicate 70 0,
    spi := some [0x03#8, 0#8, 0#8, 0#8] }

/-- The frame of the STARTED notice on the wire: length 3, kind E0, tag 0, the design revision, the
link rate, the cause, and the check byte (R181, 11.6). -/
def startedBytes (rate : LinkRate) (cause : ResetCause) : List Byte :=
  let r : Byte := match rate with | .r57600 => 0#8 | .r115200 => 1#8
  let c : Byte := match cause with | .power => 0#8 | .pin => 1#8
  [0xA5#8, 3#8, 0xE0#8, 0#8, 3#8, r, c, 0#8 - (3#8 + 0xE0#8 + 3#8 + r + c)]

/-- The whole part right after a power-on or pin reset with these levels on RATE and JACK: every
block at its reset value, STARTED queued and begun on TXD (R181), the directory read begun (R123)
and the reset's load probe running with the player held (R156). -/
def State.afterReset (rate : LinkRate) (jack : Jack) (cause : ResetCause) : State :=
  { link :=
      { rate := rate, rx := .hunt, frames := [], silence := 0, reply := none,
        tx := some { isReply := false, bytes := startedBytes rate cause },
        report := [.started rate cause], overrun := false, mask := BitVec.allOnes 14,
        resetPending := none }
    bank := { slots := Vector.replicate 96 none, reservation := none }
    params := Params.defaults
    drill :=
      { mode := .setup, phase := .noPhase, reason := .noReason, queue := [], current := none,
        praise := 0, script := [], attempt := [] }
    judge := { last := none, capture := none }
    keys :=
      { keys := Vector.replicate 48 { down := false, timer := none }, firstScan := true,
        scanTime := 0, downCount := 0, lockout := false, keyMap := defaultKeyMap,
        accept := BitVec.allOnes 42, wakeSet := defaultWakeSet, fifo := [], overrun := false }
    attn := { elapsed := 0, stage := 0, lastLetter := none, running := false }
    lesson := { seconds := 0, part := 0, timeUp := false }
    clips := readingDirectory
    speech := { queue := [], player := .held }
    out :=
      { load := .openLoad, jack := jack, probe := .running, oneMore := false, stale := false,
        trimDown := 0, tripped := false, surges := 0, clipCount := 0, clipOverflow := false,
        clipped := false, aout := none }
    power :=
      { power := .active, settle := false, sleepPending := false, wakeReason := .none,
        wakeKey := none, slept := false }
    flash := []
    pending := [] }

/-- The part after a power-on reset, with RATE low and the JACK switch OUT (both are inputs:
notes/assumptions/1.md). -/
def State.reset : State := State.afterReset .r57600 .out .power

end Sys2Proof.Machine
end

