-- ==== Sys2Proof/Machine/Format.lean ====
section
/-! DEFINITION. The byte layouts of frames, payloads and records (chapter 11). -/

namespace Sys2Proof.Machine

open Sys2Proof

/-! ## Numbers (00 Byte order, R190) -/

/-- A count of one byte. -/
def byte (n : Nat) : Byte := BitVec.ofNat 8 n

/-- A two-byte number, least significant byte first. -/
def le16 (n : Nat) : List Byte := [BitVec.ofNat 8 n, BitVec.ofNat 8 (n / 256)]

/-- A two-byte field read least significant byte first. -/
def word16 (lo hi : Byte) : Word16 := hi ++ lo

/-- The low byte of a two-byte field. -/
def lowByte (w : Word16) : Byte := w.extractLsb' 0 8

/-- The high byte of a two-byte field. -/
def highByte (w : Word16) : Byte := w.extractLsb' 8 8

/-- A two-byte field as sent. -/
def wordBytes (w : Word16) : List Byte := [lowByte w, highByte w]

/-- Six bytes of a code set, the first holding bits 0 to 7 (11.3). -/
def word48 (b0 b1 b2 b3 b4 b5 : Byte) : BitVec 48 := b5 ++ b4 ++ b3 ++ b2 ++ b1 ++ b0

/-- A code set as sent. -/
def word48Bytes (w : BitVec 48) : List Byte :=
  [w.extractLsb' 0 8, w.extractLsb' 8 8, w.extractLsb' 16 8, w.extractLsb' 24 8,
   w.extractLsb' 32 8, w.extractLsb' 40 8]

/-! ## Codes (11.3) -/

def Result.code : Result → Byte
  | .ok => 0x00#8 | .clamped => 0x01#8 | .badArg => 0x02#8 | .badKind => 0x03#8 | .mode => 0x04#8
  | .full => 0x05#8 | .inUse => 0x06#8 | .lost => 0x07#8 | .busy => 0x08#8 | .audio => 0x09#8
  | .clips => 0x0A#8 | .limit => 0x0B#8 | .noWord => 0x0C#8

def letterByte (l : Letter) : Byte := byte (0x41 + l.val)

/-- A position field: 00 when absent (R190). -/
def positionByte (p : Option Nat) : Byte := byte (p.getD 0)

/-- A letter field: 00 when absent (R190). -/
def letterField (l : Option Letter) : Byte := (l.map letterByte).getD 0#8

/-- A word index field: FF for none. -/
def indexByte (i : Option Nat) : Byte := (i.map byte).getD 0xFF#8

def boolByte (b : Bool) : Byte := if b then 1#8 else 0#8

def Mode.code : Mode → Byte
  | .setup => 0#8 | .drill => 1#8 | .free => 2#8

def Phase.code : Phase → Byte
  | .noPhase => 0#8 | .opening => 1#8 | .present => 2#8 | .listen => 3#8 | .feedback => 4#8
  | .spellout => 5#8 | .paused => 6#8 | .finished => 7#8

def Reason.code : Reason → Byte
  | .noReason => 0#8 | .request => 1#8 | .attention => 2#8 | .timeUp => 3#8 | .audio => 4#8

def Standing.code : Standing → Byte
  | .fresh => 0#8 | .practice => 1#8 | .shaky => 2#8 | .struggling => 3#8 | .benched => 4#8
  | .mastered => 5#8

def Verdict.code : Verdict → Byte
  | .right => 0#8 | .wrong => 1#8

def SlipKind.code : SlipKind → Byte
  | .swapped => 1#8 | .extra => 2#8 | .missing => 3#8 | .substitute => 4#8

def KeyCode.code : KeyCode → Byte
  | .unmapped => 0x00#8 | .go => 0x01#8 | .back => 0x02#8 | .hint => 0x03#8 | .repeatWord => 0x04#8
  | .panel p => byte (0x11 + p.val) | .letter l => letterByte l

/-- The key code a byte of KEYMAP names, if any (11.3; R189: small letters and FF are none). -/
def KeyCode.ofByte (b : Byte) : Option KeyCode :=
  let n := b.toNat
  if n = 0 then some .unmapped
  else if n = 1 then some .go
  else if n = 2 then some .back
  else if n = 3 then some .hint
  else if n = 4 then some .repeatWord
  else if h : 0x11 ≤ n ∧ n ≤ 0x1C then some (.panel ⟨n - 0x11, by omega⟩)
  else if h : 0x41 ≤ n ∧ n ≤ 0x5A then some (.letter ⟨n - 0x41, by omega⟩)
  else none

/-- The letter a byte of a received spelling names, small letters folded (R10, R189). -/
def letterOfByte (b : Byte) : Option Letter :=
  let n := b.toNat
  if h : 0x41 ≤ n ∧ n ≤ 0x5A then some ⟨n - 0x41, by omega⟩
  else if h : 0x61 ≤ n ∧ n ≤ 0x7A then some ⟨n - 0x61, by omega⟩
  else none

/-- The number of a key code in a code set; NONE has none (11.3). -/
def KeyCode.setBit : KeyCode → Option Nat
  | .letter l => some l.val
  | .go => some 26 | .back => some 27 | .hint => some 28 | .repeatWord => some 29
  | .panel p => some (30 + p.val)
  | .unmapped => none

def Load.code : Load → Byte
  | .openLoad => 0#8 | .speaker => 1#8 | .phones => 2#8

def guardByte (tripped : Bool) : Byte := boolByte tripped

def jackByte : Jack → Byte
  | .out => 0#8 | .inserted => 1#8

def DirState.code : DirState → Byte
  | .unread => 0#8 | .reading => 1#8 | .ok => 2#8 | .bad => 3#8

def DirFault.code : DirFault → Byte
  | .signature => 1#8 | .format => 2#8 | .count => 3#8 | .check => 4#8

def WakeReason.code : WakeReason → Byte
  | .none => 0#8 | .key => 1#8 | .link => 2#8

def rateByte : LinkRate → Byte
  | .r57600 => 0#8 | .r115200 => 1#8

def ResetCause.code : ResetCause → Byte
  | .power => 0#8 | .pin => 1#8

def SayOutcome.code : SayOutcome → Byte
  | .played => 0#8 | .cut => 1#8 | .flushed => 2#8

def LinkCause.code : LinkCause → Byte
  | .check => 1#8 | .timeout => 2#8 | .overflow => 3#8

def Probe.code : Probe → Nat
  | .idle => 0 | .requested => 1 | .running => 2

/-! ## Frames (R171, 11.1) -/

/-- The sum, modulo 256, of bytes. -/
def byteSum (bs : List Byte) : Byte := bs.foldl (· + ·) 0#8

/-- The bytes of a frame, start byte to check byte. -/
def Frame.bytes (f : Frame) : List Byte :=
  let body := byte f.payload.length :: f.kind :: f.tag :: f.payload
  Config.startByte :: body ++ [0#8 - byteSum body]

/-- The bytes a waiting frame occupies in the receive buffer (R173). -/
def Frame.size (f : Frame) : Nat := 5 + f.payload.length

/-! ## Notices (11.2, 11.6) -/

/-- The number of a notice's kind in the notice set: its kind code is E0 plus it. -/
def Notice.number : Notice → Nat
  | .started .. => 0 | .clips .. => 1 | .load .. => 2 | .guard .. => 3 | .phase .. => 4
  | .verdict .. => 5 | .standing .. => 6 | .attention .. => 7 | .key .. => 8 | .line .. => 9
  | .speechDone .. => 10 | .wake .. => 11 | .linkFault .. => 12 | .overrun => 13

def Notice.payload : Notice → List Byte
  | .started rate cause => [Config.revision, rateByte rate, cause.code]
  | .clips dir count cause => dir.code :: le16 count ++ [(cause.map DirFault.code).getD 0#8]
  | .load before after jack => [before.code, after.code, jackByte jack]
  | .guard tripped r clip => [guardByte tripped, byte r] ++ le16 clip
  | .phase mode ph reason word => [mode.code, ph.code, reason.code, indexByte word]
  | .verdict word tryNo v slips strain captured =>
      [byte word, byte tryNo, v.code, byte slips] ++ le16 strain ++ [boolByte captured]
  | .standing word before after strain => [byte word, before.code, after.code] ++ le16 strain
  | .attention stage word tryNo => [byte stage, indexByte word, byte tryNo]
  | .key (.key code pos) => [code.code, byte pos]
  | .key .mash => [0xFF#8, 0xFF#8]
  | .line letters => byte letters.length :: letters.map letterByte
  | .speechDone tag outcome => [tag, outcome.code]
  | .wake reason waker =>
      [reason.code, (waker.map fun k => k.1.code).getD 0#8,
       (waker.map fun k => byte k.2).getD 0xFF#8]
  | .linkFault cause kind => [cause.code, boolByte kind.isSome, kind.getD 0#8]
  | .overrun => []

/-- The frame of a notice: its kind, tag 0 (R171, 11.1). -/
def Notice.frame (n : Notice) : Frame :=
  { kind := byte (0xE0 + n.number), tag := 0#8, payload := n.payload }

/-! ## Request payloads (11.2, 11.5) -/

def requestKind : Request → Byte
  | .hello => 0x01#8 | .status _ => 0x02#8 | .resetSoft => 0x03#8 | .resetFull => 0x03#8
  | .set _ _ => 0x04#8 | .get _ => 0x05#8 | .noticeMask _ => 0x06#8 | .wordPut _ => 0x10#8
  | .wordPutIf _ => 0x11#8 | .wordGet _ _ => 0x12#8 | .wordDrop _ => 0x13#8
  | .queueLoadList _ => 0x20#8 | .queueLoadGroups _ => 0x20#8 | .queueAdd _ => 0x21#8
  | .queueGet => 0x22#8 | .start => 0x23#8 | .freeStart => 0x24#8 | .pause => 0x25#8
  | .resume => 0x26#8 | .stop => 0x27#8 | .lessonLimit _ => 0x28#8 | .judgementGet => 0x30#8
  | .slipGet => 0x31#8 | .keymap _ => 0x38#8 | .keysets _ _ => 0x39#8 | .say _ _ => 0x40#8
  | .hush => 0x41#8 | .reloadClips => 0x42#8 | .guardClear => 0x48#8 | .audioGet _ => 0x49#8
  | .sleep => 0x50#8

/-- The payload of WORD_PUT and WORD_PUT_IF. -/
def writePayload (w : WordWrite) : List Byte :=
  w.index :: w.flags :: wordBytes w.strain ++ wordBytes w.wordClip ++ wordBytes w.sentClip ++
    w.group :: byte w.spelling.length :: w.spelling

/-- Clip numbers as sent, two bytes each. -/
def clipBytes : List Word16 → List Byte
  | [] => []
  | c :: cs => lowByte c :: highByte c :: clipBytes cs

def requestPayload : Request → List Byte
  | .status f => [f]
  | .resetSoft => [0x01#8]
  | .resetFull => [0x02#8]
  | .set i v => i :: wordBytes v
  | .get i => [i]
  | .noticeMask m => wordBytes m
  | .wordPut w => writePayload w
  | .wordPutIf w => writePayload w
  | .wordGet i f => [i, f]
  | .wordDrop i => [i]
  | .queueLoadList l => 0x00#8 :: l
  | .queueLoadGroups g => [0x01#8, g]
  | .queueAdd i => [i]
  | .lessonLimit m => wordBytes m
  | .keymap l => l
  | .keysets a w => word48Bytes a ++ word48Bytes w
  | .say g l => g :: clipBytes l
  | .audioGet f => [f]
  | .hello | .queueGet | .start | .freeStart | .pause | .resume | .stop | .judgementGet | .slipGet
  | .hush | .reloadClips | .guardClear | .sleep => []

/-- The request frame the host sends. -/
def requestFrame (tag : Byte) (r : Request) : Frame :=
  { kind := requestKind r, tag := tag, payload := requestPayload r }

/-- What a checked frame asks for (R176). -/
inductive Asked where
  /-- A kind that names no request: BAD_KIND. -/
  | badKind
  /-- A payload length 11.5 does not give for the kind, or an option value not listed: BAD_ARG. -/
  | badArg
  | request (r : Request)
  deriving DecidableEq, Repr

/-- A request whose payload length is good. -/
def requestLengthOk : Request → Bool
  | .wordPut w | .wordPutIf w => w.spelling.length ≤ 12
  | .keymap l => l.length = 48
  | .say _ l => l.length ≤ 8
  | .queueLoadList l => l.length ≤ 249
  | _ => true

/-- A request, or BAD_ARG where its length is not good. -/
def Asked.ofRequest (r : Request) : Asked := if requestLengthOk r then .request r else .badArg

/-- The payload fields of WORD_PUT and WORD_PUT_IF: L must be 10 plus the spelling length (R189). -/
def parseWordWrite : List Byte → Option WordWrite
  | i :: f :: s0 :: s1 :: w0 :: w1 :: c0 :: c1 :: g :: n :: letters =>
      if n.toNat = letters.length then
        some { index := i, flags := f, strain := word16 s0 s1, wordClip := word16 w0 w1,
               sentClip := word16 c0 c1, group := g, spelling := letters }
      else none
  | _ => none

/-- Clip numbers of SAY, two bytes each; an odd byte left over fails the length test. -/
def parseClips : List Byte → Option (List Word16)
  | [] => some []
  | [_] => none
  | lo :: hi :: rest => (parseClips rest).map (word16 lo hi :: ·)

/-- A request that carries no payload. -/
def parseEmpty (r : Request) : List Byte → Asked
  | [] => .request r
  | _ => .badArg

/-- A request whose payload is one byte. -/
def parseOne (r : Byte → Request) : List Byte → Asked
  | [b] => .request (r b)
  | _ => .badArg

/-- A request whose payload is two bytes. -/
def parseTwo (r : Byte → Byte → Request) : List Byte → Asked
  | [a, b] => .request (r a b)
  | _ => .badArg

/-- An optional parse whose failure is one of length (R189). -/
def Asked.ofOption (r : Option Request) : Asked :=
  match r with
  | some r => .ofRequest r
  | none => .badArg

/-- RESET: any option but SOFT and FULL is BAD_ARG (R187, R189). -/
def parseReset : List Byte → Asked
  | [b] => if b = 0x01#8 then .request .resetSoft
           else if b = 0x02#8 then .request .resetFull else .badArg
  | _ => .badArg

/-- SET: an identifier and a two-byte value. -/
def parseSet : List Byte → Asked
  | [i, lo, hi] => .request (.set i (word16 lo hi))
  | _ => .badArg

/-- QUEUE_LOAD: the form byte is 00 or 01, and the group form has two bytes (R189). -/
def parseQueueLoad : List Byte → Asked
  | form :: rest =>
      if form = 0x00#8 then .ofRequest (.queueLoadList rest)
      else if form = 0x01#8 then
        match rest with
        | [g] => .request (.queueLoadGroups g)
        | _ => .badArg
      else .badArg
  | [] => .badArg

/-- KEYSETS: two code sets of six bytes. -/
def parseKeysets : List Byte → Asked
  | [a0, a1, a2, a3, a4, a5, w0, w1, w2, w3, w4, w5] =>
      .request (.keysets (word48 a0 a1 a2 a3 a4 a5) (word48 w0 w1 w2 w3 w4 w5))
  | _ => .badArg

/-- SAY: a gap and two-byte clip numbers (R189: L must be odd). -/
def parseSay : List Byte → Asked
  | g :: rest => .ofOption ((parseClips rest).map (.say g))
  | [] => .badArg

/-- Reads a checked frame's kind and payload (R176, R189, 11.2, 11.5). -/
def parseRequest (f : Frame) : Asked :=
  match f.kind.toNat with
  | 0x01 => parseEmpty .hello f.payload
  | 0x02 => parseOne .status f.payload
  | 0x03 => parseReset f.payload
  | 0x04 => parseSet f.payload
  | 0x05 => parseOne .get f.payload
  | 0x06 => parseTwo (fun a b => .noticeMask (word16 a b)) f.payload
  | 0x10 => .ofOption ((parseWordWrite f.payload).map .wordPut)
  | 0x11 => .ofOption ((parseWordWrite f.payload).map .wordPutIf)
  | 0x12 => parseTwo .wordGet f.payload
  | 0x13 => parseOne .wordDrop f.payload
  | 0x20 => parseQueueLoad f.payload
  | 0x21 => parseOne .queueAdd f.payload
  | 0x22 => parseEmpty .queueGet f.payload
  | 0x23 => parseEmpty .start f.payload
  | 0x24 => parseEmpty .freeStart f.payload
  | 0x25 => parseEmpty .pause f.payload
  | 0x26 => parseEmpty .resume f.payload
  | 0x27 => parseEmpty .stop f.payload
  | 0x28 => parseTwo (fun a b => .lessonLimit (word16 a b)) f.payload
  | 0x30 => parseEmpty .judgementGet f.payload
  | 0x31 => parseEmpty .slipGet f.payload
  | 0x38 => .ofRequest (.keymap f.payload)
  | 0x39 => parseKeysets f.payload
  | 0x40 => parseSay f.payload
  | 0x41 => parseEmpty .hush f.payload
  | 0x42 => parseEmpty .reloadClips f.payload
  | 0x48 => parseEmpty .guardClear f.payload
  | 0x49 => parseOne .audioGet f.payload
  | 0x50 => parseEmpty .sleep f.payload
  | _ => .badKind

/-! ## Records as sent (11.7) -/

/-- The word record of a WORD_GET reply. -/
def WordRecord.bytes (index : Nat) (r : WordRecord) : List Byte :=
  [byte index, byte r.spelling.length] ++
  (r.spelling.map letterByte ++ List.replicate (12 - r.spelling.length) 0#8) ++
  le16 r.wordClip ++ le16 (r.sentClip.getD 0) ++
  [byte r.group, boolByte r.enabled] ++ le16 r.strain ++
  [r.standing.code, byte r.streak, byte r.credit] ++ le16 r.judged ++ le16 r.right

/-- A slip as sent: five bytes. -/
def Slip.bytes (s : Slip) : List Byte :=
  [s.kind.code, positionByte s.targetPos, positionByte s.typedPos, letterField s.expected,
   letterField s.typed]

/-- The judgement record of a JUDGEMENT_GET reply. -/
def JudgementRecord.bytes (j : JudgementRecord) : List Byte :=
  [byte j.word, byte j.tryNo, j.verdict.code, byte j.slips.length, byte j.attempt.length] ++
  j.attempt.map letterByte ++ j.slips.flatMap Slip.bytes

/-- The capture record of a SLIP_GET reply. -/
def CaptureRecord.bytes (c : CaptureRecord) : List Byte :=
  [byte c.word, byte c.tryNo] ++ c.first.bytes ++ [byte c.total]

/-- The kind of the reply to a request of this kind: plus 80 hexadecimal, modulo 256 (R171). -/
def replyKind (kind : Byte) : Byte := kind + 0x80#8

/-- The payload of a reply that is a result code alone (R190). -/
def Result.only (r : Result) : List Byte := [r.code]

end Sys2Proof.Machine
end

