-- ==== Sys2Proof/Machine/Flags.lean ====
section
/-! DEFINITION. The values the part works out from its state: standing, eligibility, the effective
step, and the conditions that the blocks test. -/

namespace Sys2Proof.Machine

open Sys2Proof

/-- The standing derived from a record under a WARN_LIMIT (R4). -/
def deriveStanding (warnLimit : Nat) (r : WordRecord) : Standing :=
  if r.strain = 256 then .benched
  else if r.latch then .mastered
  else if 128 ≤ r.strain then .struggling
  else if warnLimit ≤ r.strain then .shaky
  else if r.judged = 0 then .fresh
  else .practice

/-- The record with its standing derived afresh (R6). -/
def derived (warnLimit : Nat) (r : WordRecord) : WordRecord :=
  { r with standing := deriveStanding warnLimit r }

/-- A slot's word is eligible for the DRILL QUEUE (R19). -/
def eligible : Option WordRecord → Bool
  | some r => r.enabled && !(r.standing == .benched) && !(r.standing == .mastered)
  | none => false

/-- The record in a slot; an index beyond 95 names no slot (R1). -/
def WordBank.slot (b : WordBank) (i : Nat) : Option WordRecord :=
  if h : i < 96 then b.slots[i] else none

/-- The cap of the present load; none while it is OPEN (R144). -/
def capInForce (p : Params) : Load → Option Nat
  | .speaker => some p.capSpeaker
  | .phones => some p.capPhones
  | .openLoad => none

/-- The effective step e (R146). -/
def effectiveStep (p : Params) (o : OutputStage) : Nat :=
  if p.volume = 0 ∨ o.tripped then 0
  else match capInForce p o.load with
    | none => 0
    | some cap => max 1 (min p.volume cap - o.trimDown)

/-- The word index of the current word slot (R63). -/
def Drill.word (d : Drill) : Option Nat := d.current.map (·.word)

/-- The places the DRILL QUEUE and a held current word take together (R68). -/
def Drill.places (d : Drill) : Nat := d.queue.length + (if d.current.isSome then 1 else 0)

/-- The record of the current word. -/
def currentRecord (s : State) : Option WordRecord :=
  match s.drill.current with
  | some c => s.bank.slot c.word
  | none => none

/-- A phase in which a lesson is under way, so that it can be paused and the LESSON TIMER counts
(R79, R85). -/
def Phase.underWay : Phase → Bool
  | .opening | .present | .listen | .feedback | .spellout => true
  | .noPhase | .paused | .finished => false

/-- The LESSON TIMER counts (R85). -/
def lessonCounts (s : State) : Bool :=
  s.drill.mode == .drill && s.drill.phase.underWay && s.power.power == .active

/-- The ATTENTION TIMER runs (R112). -/
def attentionRuns (s : State) : Bool := s.attn.running && s.power.power == .active

/-- The elapsed lesson seconds have reached a limit above 0 (R86). -/
def limitReached (p : Params) (seconds : Nat) : Bool :=
  decide (0 < p.lessonLimit) && decide (p.lessonLimit * 60 ≤ seconds)

/-- The threshold of an attention stage in ms (R116). -/
def stageThreshold (p : Params) (stage : Nat) : Nat :=
  (if stage = 3 then 4 else stage) * p.attnPeriod * 1000

/-- The ATTENTION TIMER runs and its elapsed time has reached the threshold of the next stage
(R116). -/
def stageReached (s : State) : Bool :=
  attentionRuns s && decide (stageThreshold s.params (s.attn.stage + 1) ≤ s.attn.elapsed)

/-- The head of the UTTERANCE QUEUE is playing: taken into GAP or PLAY (R129). -/
def Player.playing : Player → Bool
  | .gap _ | .play _ => true
  | .idle | .held => false

def EntryClass.isSaid : EntryClass → Bool
  | .said _ _ _ => true
  | _ => false

/-- The bytes the receive buffer holds: the waiting frames and the frame in progress (R173). -/
def LinkPort.held (l : LinkPort) : Nat :=
  (l.frames.map Frame.size).sum + (match l.rx with | .frame bs => bs.length | _ => 0)

/-- The receiver is discarding a waking frame (R167). -/
def Receiver.wakeFrame : Receiver → Bool
  | .wakeLength | .wakeDiscard _ => true
  | _ => false

/-- A request can be taken (R175). -/
def canTake (s : State) : Bool :=
  s.power.power == .active && s.link.reply.isNone && !s.power.sleepPending &&
    s.link.resetPending.isNone

/-- The LINK PORT stands ready: a request can be taken, no frame waits or is in progress. -/
def ready (s : State) : Bool :=
  canTake s && s.link.frames.isEmpty && decide (s.link.rx = .hunt)

end Sys2Proof.Machine
end

