-- ==== Sys2Proof/Machine/Operands.lean ====
section
/-! DEFINITION. The fields of requests and of the flash directory, and the tests of their values
(R10, R122, R131, R189, R191). -/

namespace Sys2Proof.Machine

open Sys2Proof

/-- Bit n of a flags byte. -/
def flag (b : Byte) (n : Nat) : Bool := b.getLsbD n

/-- The letters of a received spelling, folded; `none` when a byte is no letter (R10). -/
def foldSpelling (bs : List Byte) : Option (List Letter) := bs.mapM letterOfByte

/-- A spelling passes the test of R10. -/
def spellingOf (bs : List Byte) : Option (List Letter) :=
  match foldSpelling bs with
  | some ls => if 1 ≤ ls.length ∧ ls.length ≤ 12 then some ls else none
  | none => none

/-- A clip number above 0 passes the tests of R10 under this directory state and count. -/
def clipInRange (c : ClipStore) (n : Nat) : Bool :=
  decide (n ≤ 1023) && (!(c.dir == .ok) || decide (n ≤ c.count))

/-- The host-written fields of a WORD_PUT or WORD_PUT_IF, checked in the order of R9 against the
directory (R10): the spelling, or `none` for BAD_ARG. -/
def checkWrite (c : ClipStore) (w : WordWrite) : Option (List Letter) :=
  if w.index.toNat < Config.wordSlots then
    match spellingOf w.spelling with
    | some ls =>
        if 1 ≤ w.wordClip.toNat ∧ clipInRange c w.wordClip.toNat ∧
            clipInRange c w.sentClip.toNat ∧ w.group.toNat ≤ 7 then some ls
        else none
    | none => none
  else none

/-- The sentence clip: absent when given as 0 (R10). -/
def sentenceClip (n : Nat) : Option Nat := if n = 0 then none else some n

/-- A key code is in a code set; NONE never is (11.3). -/
def inSet (set : BitVec 42) (c : KeyCode) : Bool :=
  match c.setBit with
  | some n => set.getLsbD n
  | none => false

/-- The fields of a directory entry (R122, R191); `coding` is `none` for a value that names none. -/
structure DirEntry where
  start  : Nat
  count  : Nat
  coding : Option Coding
  trim   : Int
  deriving DecidableEq, Repr

/-- The byte a flash with this content answers at an address; beyond what is known of it, a free
value (R121, notes/assumptions/12.md). -/
def flashByte (bytes : List Byte) (a : Nat) : Byte := (bytes[a]?).getD (Config.flashBeyond a)

/-- A two-byte number of the directory (11.9). -/
def flash16 (bytes : List Byte) (a : Nat) : Nat :=
  (flashByte bytes a).toNat + 256 * (flashByte bytes (a + 1)).toNat

/-- The address of the directory entry of clip c (11.9). -/
def entryAddress (clip : Nat) : Nat := 149 + 8 * (clip - 1)

/-- The directory entry of a clip (R191). -/
def readEntry (bytes : List Byte) (clip : Nat) : DirEntry :=
  let a := entryAddress clip
  { start := flash16 bytes a + 65536 * (flashByte bytes (a + 2)).toNat
    count := flash16 bytes (a + 3) + 65536 * ((flashByte bytes (a + 5)).toNat % 16)
    coding :=
      if flashByte bytes (a + 6) = 0#8 then some .pcm8
      else if flashByte bytes (a + 6) = 1#8 then some .pcm16 else none
    trim := (flashByte bytes (a + 7)).toInt }

/-- Bytes a sample takes in the flash. -/
def Coding.width : Coding → Nat
  | .pcm8 => 1 | .pcm16 => 2

/-- A directory entry can be played (R131): the coding with it when it can. -/
def DirEntry.usable (d : DirEntry) : Option Coding :=
  match d.coding with
  | some c =>
      if d.count ≠ 0 ∧ -6 ≤ d.trim ∧ d.trim ≤ 3 ∧ d.start + d.count * c.width ≤ 16777216 then some c
      else none
  | none => none

/-- The clip as it would be played now, its directory entry read from the flash as the flash stands
(R130, R191), or `none` when its entry passes with no length (R131). -/
def playable (s : State) (clip : Nat) : Option Playing :=
  if 1 ≤ clip ∧ clip ≤ s.clips.count then
    let d := readEntry s.flash clip
    match d.usable with
    | some coding =>
        some { clip := clip, coding := coding, trim := d.trim, count := d.count, handed := 0,
               refused := false }
    | none => none
  else none

/-- Outcome of the tests of a directory read (R124). -/
inductive ReadResult where
  | ok (count : Nat)
  | fails (cause : DirFault)
  deriving DecidableEq, Repr

/-- The sum, modulo 65536, of the bytes from an address on (R191). -/
def sumFrom (bytes : List Byte) (a n : Nat) : Nat :=
  ((List.range n).foldl (fun t i => t + (flashByte bytes (a + i)).toNat) 0) % 65536

/-- The tests of R124 on the bytes of the flash from address 0 on, in their order. -/
def testDirectory (bytes : List Byte) : ReadResult :=
  let count := flash16 bytes 5
  if ¬ ((List.range 4).map (flashByte bytes) = [0x5A#8, 0x48#8, 0x43#8, 0x53#8]) then
    .fails .signature
  else if ¬ (flashByte bytes 4 = 1#8) then .fails .format
  else if count < 1 ∨ 1023 < count then .fails .count
  else if ¬ ((sumFrom bytes 0 147 + sumFrom bytes 149 (8 * count)) % 65536 = flash16 bytes 147) then
    .fails .check
  else .ok count

/-- The role table of the directory (11.9). -/
def readRoles (bytes : List Byte) : Vector Nat 70 :=
  Vector.ofFn fun i => flash16 bytes (7 + 2 * i.val)

/-- The table position of a role (R127). -/
def Role.position : Role → Nat
  | .letterName l => l.val
  | .letterSound l => 26 + l.val
  | .praise i => 52 + i.val
  | .almost => 55 | .tryAgain => 56 | .theWordIs => 57 | .listenSpell => 58 | .startsWith => 59
  | .nextLetter => 60 | .oneKey => 61 | .fullBuzz => 62 | .backClick => 63 | .nudge1 => 64
  | .nudge2 => 65 | .timeUpBye => 66 | .allDone => 67 | .welcomeBack => 68 | .notNow => 69

/-- The clip number the role table holds for a role now (R127). -/
def roleClip (c : ClipStore) (r : Role) : Nat :=
  if h : r.position < 70 then c.roles[r.position] else 0

/-- The read command on MOSI: 03 and the 24-bit address, most significant byte first (R121). -/
def readCommand (address : Nat) : List Byte :=
  [0x03#8, byte (address / 65536), byte (address / 256), byte address]

/-- The load kind a resistance in milliohms names (R154; DESIGN CHOICE of the unit,
notes/assumptions/22.md). -/
def loadOf (milliohms : Nat) : Load :=
  if milliohms < 2000 then .openLoad
  else if milliohms < 12000 then .speaker
  else if milliohms ≤ 1000000 then .phones
  else .openLoad

end Sys2Proof.Machine
end

