-- ==== Sys2Proof/Machine/Ops.lean ====
section
/-! DEFINITION. The shared operations on the report queue, the transmitter, the word bank and the
key FIFO. An event in progress is a `Work`: the state with the notices raised so far, which are
offered to the REPORT QUEUE when the event ends. -/

namespace Sys2Proof.Machine

open Sys2Proof

/-- An event in progress: the state, and the notices raised in it, oldest first. -/
structure Work where
  st     : State
  raised : List Notice
  deriving DecidableEq, Repr

/-- An event begins. -/
def State.begin (s : State) : Work := { st := s, raised := [] }

/-- Raises a notice. -/
def Work.raise (n : Notice) (w : Work) : Work := { w with raised := w.raised ++ [n] }

/-- Raises several notices in order. -/
def Work.raiseAll (ns : List Notice) (w : Work) : Work := { w with raised := w.raised ++ ns }

/-! ## The report queue (10.5) -/

/-- The kind of a notice is enabled: its bit of the mask is set (DESIGN CHOICE,
notes/assumptions/36.md); STARTED and OVERRUN always are (R180). -/
def enabled (mask : BitVec 14) (n : Notice) : Bool :=
  n.number == 0 || n.number == 13 || mask.getLsbD n.number

/-- Offers a notice to the REPORT QUEUE (R178). -/
def offer (l : LinkPort) (n : Notice) : LinkPort :=
  if enabled l.mask n then
    if l.report.length < Config.reportPlaces then { l with report := l.report ++ [n] }
    else { l with overrun := true }
  else l

/-- A PHASE notice. -/
def Notice.isPhase : Notice → Bool
  | .phase _ _ _ _ => true
  | _ => false

/-- The notices of an event without the PHASE notices of phases it passed through: only the phase
the DRILL ENGINE rests in raises one (R61, R71; DEDUCED, notes/assumptions/10.md). -/
def restingNotices : List Notice → List Notice
  | [] => []
  | n :: ns => if n.isPhase && ns.any Notice.isPhase then restingNotices ns else n :: restingNotices ns

/-- The event ends: its notices are offered in the order raised (R178). -/
def dispose (w : Work) : State :=
  { w.st with link := (restingNotices w.raised).foldl offer w.st.link }

/-! ## The transmitter (10.4) -/

/-- The frame the transmitter sends next: a reply first, else the oldest notice (R177). -/
def chooseFrame (l : LinkPort) : Option Sending :=
  match l.reply with
  | some f => some { isReply := true, bytes := f.bytes }
  | none => match l.report with
    | n :: _ => some { isReply := false, bytes := n.frame.bytes }
    | [] => none

/-- An idle transmitter chooses the next frame; it begins none in SLEEP (R177). -/
def transmit (s : State) : State :=
  if s.link.tx.isNone && s.power.power == .active then
    { s with link.tx := chooseFrame s.link }
  else s

/-- An event ends and an idle transmitter chooses. -/
def finish (w : Work) : State := transmit (dispose w)

/-- Places a reply in the reply slot (R175). -/
def placeReply (kind tag : Byte) (payload : List Byte) (s : State) : State :=
  { s with link.reply := some { kind := replyKind kind, tag := tag, payload := payload } }

/-- A sent notice leaves the REPORT QUEUE, and an OVERRUN takes the freed place when the overrun
mark is set (R177, R179). So it does for a notice begun before the entry to SLEEP whose last byte
leaves in SLEEP, though R165 says that no block raises a notice there (DESIGN CHOICE,
notes/assumptions/37.md). -/
def noticeSent (l : LinkPort) : LinkPort :=
  if l.overrun then { l with report := l.report.tail ++ [.overrun], overrun := false }
  else { l with report := l.report.tail }

/-! ## The word bank (chapter 1) -/

/-- The slots with one of them replaced; an index beyond 95 names none. -/
def setSlot (b : WordBank) (i : Nat) (r : Option WordRecord) : WordBank :=
  if h : i < 96 then { b with slots := b.slots.set i r } else b

/-- A change to the record of word i clears a reservation naming it (R14). -/
def clearReservation (b : WordBank) (i : Nat) : WordBank :=
  if b.reservation = some i then { b with reservation := none } else b

/-- One change to a record: it is written, the reservation naming it is cleared (R14), and a
standing different from the one before raises a STANDING notice, which filling an empty slot does
not (R8). -/
def changeRecord (i : Nat) (r : WordRecord) (w : Work) : Work :=
  let old := w.st.bank.slot i
  let w1 : Work := { w with st.bank := clearReservation (setSlot w.st.bank i (some r)) i }
  match old with
  | some o => if o.standing = r.standing then w1
              else w1.raise (.standing i o.standing r.standing r.strain)
  | none => w1

/-- The strain write of R11, of a value already brought to 256 or less; standing not yet derived. -/
def strainWrite (returnCredit value : Nat) (r : WordRecord) : WordRecord :=
  { r with strain := value, streak := 0, latch := false,
           credit := if value = 256 then returnCredit else 0 }

/-- The clear history option (R12). -/
def clearHistory (r : WordRecord) : WordRecord :=
  { r with judged := 0, right := 0, streak := 0, latch := false }

/-- A queued word that has become ineligible leaves the DRILL QUEUE (R19). -/
def dropIneligible (i : Nat) (s : State) : State :=
  if eligible (s.bank.slot i) then s else { s with drill.queue := s.drill.queue.filter (· ≠ i) }

/-! ## The key FIFO (5.5) -/

/-- A key event is offered to the KEY FIFO (R100, R102). -/
def offerKey (e : KeyEvent) (s : State) : State :=
  if s.drill.mode = .setup then s
  else if s.keys.fifo.length < Config.fifoPlaces then { s with keys.fifo := s.keys.fifo ++ [e] }
  else { s with keys.overrun := true }

/-- The KEY FIFO is cleared; its overrun mark stays (R101). -/
def clearFifo (s : State) : State := { s with keys.fifo := [] }

end Sys2Proof.Machine
end

