-- ==== Sys2Proof/Machine/Output.lean ====
section
/-! DEFINITION. The OUTPUT STAGE: scaling samples, clipping, the load probe and the surge guard
(chapter 8). -/

namespace Sys2Proof.Machine

open Sys2Proof

/-- The multiplier table m(1) to m(34) of R148. -/
def multipliers : List Nat :=
  [4, 5, 6, 8, 10, 13, 16, 21, 26, 33, 41, 52, 65, 82, 103, 130, 163, 205, 258, 325, 410, 516,
   649, 817, 1029, 1295, 1631, 2053, 2584, 3254, 4096, 5157, 6492, 8173]

/-- m(k) for k from 1 to 34. -/
def multiplier (k : Nat) : Nat := (multipliers[k - 1]?).getD 0

/-- The sample value x of R147 step 1, from the bytes read of the flash: a PCM8 sample is its one
signed byte times 256, a PCM16 sample its two bytes, least significant first (R130, R191). -/
def sampleValue (c : Coding) (miso : SampleBytes) : Int :=
  match c with
  | .pcm8 => miso.first.toInt * 256
  | .pcm16 => (miso.second ++ miso.first : Word16).toInt

/-- The index k of R147 step 3. -/
def sampleIndex (e : Nat) (trim : Int) : Nat := (max 1 (min 34 ((e : Int) + trim))).toNat

/-- The quotient of R147 step 4, rounded toward minus infinity. -/
def scaled (e : Nat) (trim x : Int) : Int :=
  (x * (multiplier (sampleIndex e trim) : Int) + 2048) / 4096

/-- R147 step 5: a quotient beyond 16 bits is saturated. -/
def saturate (q : Int) : Int := if 32767 < q then 32767 else if q < -32768 then -32768 else q

/-- The sample of R147 saturates. -/
def saturates (e : Nat) (trim x : Int) : Bool :=
  decide (e ≠ 0) && (decide (32767 < scaled e trim x) || decide (scaled e trim x < -32768))

/-- The output y of R147. -/
def outputSample (e : Nat) (trim x : Int) : Int := if e = 0 then 0 else saturate (scaled e trim x)

/-- The OUTPUT STAGE is told that an entry with samples has started PLAY (R149, R157). -/
def startEntry (o : OutputStage) : OutputStage := { o with clipped := false, surges := 0 }

/-- r raised by n, stopping at 8 (R145). -/
def raiseTrim (n : Nat) (o : OutputStage) : OutputStage := { o with trimDown := min 8 (o.trimDown + n) }

/-- The close of an entry with samples: a set clipped mark raises the clip counter or sets its
overflow mark, and with AUTO_TRIM 1 raises r; the mark then has no further use (R149, R150). A
surge count left is discarded with the entry (R157). -/
def closeEntry (p : Params) (o : OutputStage) : OutputStage :=
  let counted :=
    if o.clipped then
      let o1 := if o.clipCount < 127 then { o with clipCount := o.clipCount + 1 }
                else { o with clipOverflow := true }
      if p.autoTrim = 1 then raiseTrim 1 o1 else o1
    else o
  { counted with clipped := false, surges := 0 }

/-- A load probe is requested (R153). -/
def requestProbe (o : OutputStage) : OutputStage :=
  match o.probe with
  | .idle => { o with probe := .requested }
  | .requested => o
  | .running => { o with oneMore := true }

/-- The probe starts: a probe that starts now started after any OPENING that has been entered. -/
def startProbe (o : OutputStage) : OutputStage := { o with probe := .running, stale := false }

/-- Entry to SLEEP: a probe is abandoned or no longer requested, and AOP and AON are not driven
(R156, R164). -/
def sleepOutput (o : OutputStage) : OutputStage :=
  { o with probe := .idle, oneMore := false, stale := false, aout := none }

end Sys2Proof.Machine
end

