-- ==== Sys2Proof/Machine/Speech.lean ====
section
/-! DEFINITION. The UTTERANCE QUEUE and the SPEECH PLAYER (chapter 7): placing, taking, leaving,
cutting and flushing. -/

namespace Sys2Proof.Machine

open Sys2Proof

/-! ## SAID outcomes (R137) -/

/-- How an entry leaves the UTTERANCE QUEUE. -/
inductive Leaving where
  | ended | cut | refused | removed
  deriving DecidableEq, Repr

/-- The request's outcome after one of its entries has left (R137). -/
def outcomeAfter (how : Leaving) (o : SayOutcome) : SayOutcome :=
  match how with
  | .ended => o
  | .cut => if o = .flushed then .flushed else .cut
  | .refused | .removed => .flushed

/-- Updates the outcome held in the first entry of a queue that is the last of its request: the last
entry of the request whose entry stood ahead of them (R137). -/
def markLast (how : Leaving) : List Entry → List Entry
  | [] => []
  | e :: es =>
    match e.cls with
    | .said tag true o => { e with cls := .said tag true (outcomeAfter how o) } :: es
    | _ => e :: markLast how es

/-- The rest of the queue and the notices when entry e leaves from ahead of es (R137). An entry
whose request's last has left marks none: its request has been reported. -/
def saidLeaves (how : Leaving) (e : Entry) (es : List Entry) : List Entry × List Notice :=
  match e.cls with
  | .said tag true o => (es, [.speechDone tag (outcomeAfter how o)])
  | .said _ false .played => (markLast how es, [])
  | _ => (es, [])

/-! ## The playing entry leaves -/

/-- The playing head entry leaves by this way: its close for the OUTPUT STAGE when it was in PLAY
(R149), its SAID outcome (R137), the read transfer ended, and the player between entries. A NOT_NOW
clip leaves as an entry refused its turn, however it ends (R135). -/
def leaveHead (how : Leaving) (w : Work) : Work :=
  match w.st.speech.queue with
  | [] => { w with st.speech.player := .idle }
  | e :: es =>
    let how' := match w.st.speech.player with
      | .play p => if p.refused then .refused else how
      | _ => how
    let out' := match w.st.speech.player with
      | .play _ => closeEntry w.st.params w.st.out
      | _ => w.st.out
    let left := saidLeaves how' e es
    { st := { w.st with speech := { queue := left.1, player := .idle }, out := out',
                        clips := { w.st.clips with spi := none } }
      raised := w.raised ++ left.2 }

/-- The playing entry, if its class is one of these, is cut. -/
def cutHead (p : EntryClass → Bool) (w : Work) : Work :=
  match w.st.speech.queue with
  | e :: _ => if w.st.speech.player.playing && p e.cls then leaveHead .cut w else w
  | [] => w

/-! ## Taking an entry (R129 to R132, R135) -/

/-- A clip starts PLAY: the OUTPUT STAGE is told (R130), and the reader has read its directory entry
and reads its samples (R121). All of them are read in one transfer from the start address, FCSn low
until the entry leaves; the spec does not say (DESIGN CHOICE, notes/assumptions/34.md). -/
def startClip (p : Playing) (w : Work) : Work :=
  let start := (readEntry w.st.flash p.clip).start
  { w with st := { w.st with speech.player := .play p, out := startEntry w.st.out,
                             clips.spi := some (readCommand start) } }

/-- The head entry enters PLAY: its clip starts, or it passes with no length (R131); a SAID entry
that would pass is refused its turn, NOT_NOW in its place (R135). -/
def enterPlay (w : Work) : Work :=
  match w.st.speech.queue with
  | [] => { w with st.speech.player := .idle }
  | e :: _ =>
    match playable w.st e.clip with
    | some p => startClip p w
    | none =>
      if e.cls.isSaid then
        match playable w.st (roleClip w.st.clips .notNow) with
        | some p => startClip { p with refused := true } w
        | none => leaveHead .refused w
      else leaveHead .ended w

/-- The player takes the head entry into GAP with its gap timer at 0 (R129). -/
def takeHead (w : Work) : Work := { w with st.speech.player := .gap 0 }

/-- A requested probe becomes RUNNING and the player is HELD (R132, R153). -/
def probeStarts (w : Work) : Work :=
  { w with st := { w.st with speech.player := .held, out := startProbe w.st.out } }

/-! ## Placing (R133, R134, R135) -/

/-- The oldest waiting SAID entry gives way (R134): the queue without it, and its notices; `none`
when none waits. -/
def giveWay : List Entry → Option (List Entry × List Notice)
  | [] => none
  | e :: es =>
    if e.cls.isSaid then some (saidLeaves .removed e es)
    else (giveWay es).map fun r => (e :: r.1, r.2)

/-- A playing entry that outlives the last of its request, which was removed: the outcome reported
was FLUSHED (R137; DEDUCED, notes/assumptions/33.md). -/
def lastGone (e : Entry) : Entry :=
  match e.cls with
  | .said tag false _ => { e with cls := .said tag false .flushed }
  | _ => e

/-- `giveWay` among the waiting entries: the playing head does not wait. Where the oldest
waiting SAID entry is the last of its request, a SAID entry that plays and is not last is of
that request. -/
def giveWayWaiting (playing : Bool) (q : List Entry) : Option (List Entry × List Notice) :=
  match playing, q with
  | true, e :: es => (giveWay es).map fun r => ((if r.2 = [] then e else lastGone e) :: r.1, r.2)
  | _, q => giveWay q

/-- A class for which a waiting SAID entry gives way (R134). -/
def EntryClass.spoken : EntryClass → Bool
  | .prompt | .feedback | .nudge => true
  | _ => false

/-- Places a PROMPT, FEEDBACK, NUDGE or CUE entry (R134). -/
def place (e : Entry) (w : Work) : Work :=
  let q := w.st.speech.queue
  if q.length < Config.utterancePlaces then { w with st.speech.queue := q ++ [e] }
  else if e.cls.spoken then
    match giveWayWaiting w.st.speech.player.playing q with
    | some (q', ns) => { st := { w.st with speech.queue := q' ++ [e] }, raised := w.raised ++ ns }
    | none => w
  else w

/-- Replaces the first ECHO of a queue; `none` when there is none. -/
def replaceEcho (e : Entry) : List Entry → Option (List Entry)
  | [] => none
  | x :: xs => if x.cls = .echo then some (e :: xs) else (replaceEcho e xs).map (x :: ·)

/-- Replaces the ECHO waiting in the queue, if one waits (R133). -/
def replaceWaiting (playing : Bool) (e : Entry) (q : List Entry) : Option (List Entry) :=
  match playing, q with
  | true, x :: xs => (replaceEcho e xs).map (x :: ·)
  | _, q => replaceEcho e q

/-- The playing entry is an ECHO. -/
def echoPlays (s : Speech) : Bool :=
  match s.queue with
  | e :: _ => s.player.playing && decide (e.cls = .echo)
  | [] => false

/-- Places an ECHO entry (R133). -/
def placeEcho (e : Entry) (w : Work) : Work :=
  let q := w.st.speech.queue
  match replaceWaiting w.st.speech.player.playing e q with
  | some q' => { w with st.speech.queue := q' }
  | none =>
    if echoPlays w.st.speech then
      let w1 := leaveHead .cut w
      { w1 with st.speech.queue := e :: w1.st.speech.queue }
    else if q.length < Config.utterancePlaces then { w with st.speech.queue := q ++ [e] }
    else w

/-- An entry for a role, with the clip the role table holds now (R127). -/
def roleEntry (c : ClipStore) (r : Role) (cls : EntryClass) : Entry :=
  { clip := roleClip c r, cls := cls, gap := 0, skippable := false, scripted := false }

/-- An entry for a clip. -/
def clipEntry (n : Nat) (cls : EntryClass) : Entry :=
  { clip := n, cls := cls, gap := 0, skippable := false, scripted := false }

/-- Places a role's clip as an entry of a class, not skippable, gap 0. -/
def placeRole (r : Role) (cls : EntryClass) (w : Work) : Work :=
  place (roleEntry w.st.clips r cls) w

/-- The SAID entries of a request, the last with the last-of-request mark (R135). -/
def saidEntries (tag : Byte) (gap : Nat) : List Nat → List Entry
  | [] => []
  | [c] => [{ clip := c, cls := .said tag true .played, gap := gap, skippable := false,
              scripted := false }]
  | c :: cs => { clip := c, cls := .said tag false .played, gap := gap, skippable := false,
                 scripted := false } :: saidEntries tag gap cs

/-! ## Flushes (7.8, R136) -/

/-- Removes every waiting entry of these drill classes and cuts a playing one (R138). -/
def flushClasses (p : EntryClass → Bool) (w : Work) : Work :=
  let w1 := cutHead p w
  { w1 with st.speech.queue := w1.st.speech.queue.filter fun e => !p e.cls }

/-- The engine flush: every class but SAID (R138). -/
def engineFlush (w : Work) : Work := flushClasses (fun c => !c.isSaid) w

/-- The classes FREE makes, which STOP in FREE removes and cuts (R138). -/
def freeClass (c : EntryClass) : Bool := decide (c = .echo) || decide (c = .cue)

/-- The notices of waiting SAID entries that are all removed: one for each last of a request, in
queue order (R137). -/
def removedNotices (q : List Entry) : List Notice :=
  q.filterMap fun e =>
    match e.cls with
    | .said tag true _ => some (.speechDone tag .flushed)
    | _ => none

/-- Removes every waiting SAID entry and cuts a playing one (R136). -/
def flushSaid (w : Work) : Work :=
  let w1 := cutHead EntryClass.isSaid w
  { st := { w1.st with speech.queue := w1.st.speech.queue.filter fun e => !e.cls.isSaid }
    raised := w1.raised ++ removedNotices w1.st.speech.queue }

/-- The full flush: every entry of every class (R139). -/
def fullFlush (w : Work) : Work := flushSaid (engineFlush w)

end Sys2Proof.Machine
end

