-- ==== Sys2Proof/Machine/Judging.lean ====
section
/-! DEFINITION. The JUDGE: the alignment of an attempt against its target (chapter 2), and the
strain arithmetic of judgements, hints and the bench (chapter 3). -/

namespace Sys2Proof.Machine

open Sys2Proof

/-! ## Aligning (2.3) -/

/-- The leftover target letters, from position i, as MISSING slips (R30). -/
def missingFrom (i : Nat) : List Letter → List Slip
  | [] => []
  | t :: ts => { kind := .missing, targetPos := some i, typedPos := none, expected := some t,
                 typed := none } :: missingFrom (i + 1) ts

/-- The leftover attempt letters, from position j, as EXTRA slips (R30). -/
def extraFrom (j : Nat) : List Letter → List Slip
  | [] => []
  | a :: as => { kind := .extra, targetPos := none, typedPos := some j, expected := none,
                 typed := some a } :: extraFrom (j + 1) as

/-- The walk of R25 from positions i and j, with the letters left on each side. Each step tries
match, swapped, extra, missing, substitute in this order; the fuel bounds the steps. -/
def alignFrom : Nat → Nat → Nat → List Letter → List Letter → List Slip
  | _, _, j, [], as => extraFrom j as
  | _, i, _, ts, [] => missingFrom i ts
  | 0, i, _, ts, _ => missingFrom i ts
  | fuel + 1, i, j, t :: ts, a :: as =>
    if t = a then alignFrom fuel (i + 1) (j + 1) ts as
    else if as.head? = some t ∧ ts.head? = some a then
      { kind := .swapped, targetPos := some i, typedPos := some j, expected := some t,
        typed := some a } :: alignFrom fuel (i + 2) (j + 2) ts.tail as.tail
    else if as.head? = some t ∧ ts.length < as.length then
      { kind := .extra, targetPos := none, typedPos := some j, expected := none,
        typed := some a } :: alignFrom fuel i (j + 1) (t :: ts) as
    else if ts.head? = some a ∧ as.length < ts.length then
      { kind := .missing, targetPos := some i, typedPos := none, expected := some t,
        typed := none } :: alignFrom fuel (i + 1) j ts (a :: as)
    else
      { kind := .substitute, targetPos := some i, typedPos := some j, expected := some t,
        typed := some a } :: alignFrom fuel (i + 1) (j + 1) ts as

/-- The slip list of an attempt: empty when it equals the target (R24), else that of the walk, which
ends after at most n + m − 1 steps (R25). -/
def slipsOf (target attempt : List Letter) : List Slip :=
  if attempt = target then []
  else alignFrom (target.length + attempt.length) 1 1 target attempt

/-- The verdict (R24, R32). -/
def verdictOf (target attempt : List Letter) : Verdict :=
  if attempt = target then .right else .wrong

/-! ## The strain arithmetic (3.2 to 3.5) -/

/-- The increment of a WRONG verdict with s slips (R43). -/
def wrongIncrement (s : Nat) : Nat := 4 * (1 + min s 3)

/-- The WRONG update, counts included, standing not yet derived (R43, R44, R49). -/
def wrongUpdate (p : Params) (s : Nat) (r : WordRecord) : WordRecord :=
  let sum := r.strain + wrongIncrement s
  { r with strain := min sum 256, streak := 0, latch := false,
           credit := if 256 ≤ sum then p.returnCredit else r.credit,
           judged := min 65535 (r.judged + 1) }

/-- The credit of a RIGHT verdict (R46). -/
def rightCredit (c : Current) : Nat :=
  if c.tryNo = 1 ∧ c.hints = 0 ∧ c.spelledOut = false then 2 else 1

/-- The RIGHT update, counts included, standing not yet derived (R47, R48, R49). -/
def rightUpdate (p : Params) (credit : Nat) (r : WordRecord) : WordRecord :=
  let strain := r.strain - credit
  let streak := if credit = 2 then min 7 (r.streak + 1) else 0
  { r with strain := strain, streak := streak,
           latch := r.latch || (decide (p.masterStreak ≤ streak) && decide (strain ≤ 16)),
           judged := min 65535 (r.judged + 1), right := min 65535 (r.right + 1) }

/-- The hint cost, standing not yet derived (R50). -/
def hintUpdate (r : WordRecord) : WordRecord := { r with strain := min 255 (r.strain + 2) }

/-- The update of a judgement (R42, effects 1 and 2). -/
def judgedUpdate (p : Params) (c : Current) (v : Verdict) (s : Nat) (r : WordRecord) : WordRecord :=
  match v with
  | .right => rightUpdate p (rightCredit c) r
  | .wrong => wrongUpdate p s r

/-! ## The bench (3.6) -/

/-- A word whose credit a return credit step lowers (R51). -/
def stepsCredit (judged i : Nat) (r : WordRecord) : Bool :=
  decide (i ≠ judged) && decide (r.standing = .benched) && decide (0 < r.credit)

/-- The return credit step of a RIGHT judgement of word `judged` (R51). -/
def creditStep (judged : Nat) (b : WordBank) : WordBank :=
  { slots := Vector.ofFn fun i => (b.slots[i]).map fun r =>
      if stepsCredit judged i.val r then { r with credit := r.credit - 1 } else r
    reservation := b.reservation.filter fun j =>
      match b.slot j with
      | some r => !stepsCredit judged j r
      | none => true }

/-- The record of a word that returns from the bench (R53). -/
def returned (warnLimit : Nat) (r : WordRecord) : WordRecord :=
  derived warnLimit { r with strain := warnLimit, streak := 0, credit := 0 }

/-- The conditions of R52 for the word at index i, at its visit. -/
def returns (i : Nat) (s : State) : Bool :=
  match s.bank.slot i with
  | some r => decide (r.standing = .benched) && decide (r.credit = 0) && r.enabled &&
      decide (s.drill.queue.length + 1 < Config.queuePlaces)
  | none => false

/-- The visit of R52 to the word at index i. -/
def visitBench (w : Work) (i : Nat) : Work :=
  match w.st.bank.slot i with
  | some r =>
    if returns i w.st then
      let w1 := changeRecord i (returned w.st.params.warnLimit r) w
      { w1 with st.drill.queue := w1.st.drill.queue ++ [i] }
    else w
  | none => w

/-- The bench returns of a RIGHT judgement, in index order (R52 to R54). -/
def benchReturns (w : Work) : Work :=
  if w.st.params.benchReturn = 1 then (List.range Config.wordSlots).foldl visitBench w else w

/-! ## One judgement (R23, R38, R42) -/

/-- The capture record after a judgement, and whether this judgement filled it (R35, R38). -/
def captured (j : JudgementRecord) (old : Option CaptureRecord) : Option CaptureRecord × Bool :=
  match old, j.verdict, j.slips with
  | none, .wrong, s :: _ =>
      (some { word := j.word, tryNo := j.tryNo, first := s, total := j.slips.length }, true)
  | o, _, _ => (o, false)

/-- Effects 1 to 5 of a judgement (R23) of the current word c with record r: the records, the
strain update, the bench, and the notices in the order of R38; the last verdict is kept with the
current word (R63). The phase that follows is the DRILL ENGINE's. -/
def makeJudgement (c : Current) (r : WordRecord) (w : Work) : Work :=
  let s := w.st
  let j : JudgementRecord :=
    { word := c.word, tryNo := c.tryNo, verdict := verdictOf r.spelling s.drill.attempt,
      attempt := s.drill.attempt, slips := slipsOf r.spelling s.drill.attempt }
  let cap := captured j s.judge.capture
  let r' := derived s.params.warnLimit (judgedUpdate s.params c j.verdict j.slips.length r)
  let w1 : Work :=
    { w with st := { s with judge := { last := some j, capture := cap.1 },
                            drill.current := some { c with lastVerdict := some j.verdict } } }
  let w2 := changeRecord c.word r'
    (w1.raise (.verdict c.word c.tryNo j.verdict j.slips.length r'.strain cap.2))
  match j.verdict with
  | .right => benchReturns { w2 with st.bank := creditStep c.word w2.st.bank }
  | .wrong => w2

/-- The hint cost of a revealed letter (R50). -/
def chargeHint (c : Current) (r : WordRecord) (w : Work) : Work :=
  changeRecord c.word (derived w.st.params.warnLimit (hintUpdate r)) w

end Sys2Proof.Machine
end

