-- ==== Sys2Proof/Machine/Drill.lean ====
section
/-! DEFINITION. The DRILL ENGINE (chapter 4): phases, scripts, settling, word boundaries, pauses and
the key events it takes. -/

namespace Sys2Proof.Machine

open Sys2Proof

/-! ## Phases (R61) -/

/-- The PHASE notice of the state as it stands (R61). -/
def phaseNotice (d : Drill) : Notice := .phase d.mode d.phase d.reason d.word

/-- Changes the phase and pause reason, with a PHASE notice (R61). -/
def enterPhase (ph : Phase) (reason : Reason) (w : Work) : Work :=
  let d := { w.st.drill with phase := ph, reason := reason }
  { st := { w.st with drill := d }, raised := w.raised ++ [phaseNotice d] }

/-- The ATTENTION TIMER stops, keeping its time and stage (R112). -/
def stopAttention (a : AttentionTimer) : AttentionTimer := { a with running := false }

/-! ## Scripts (4.4) -/

/-- A script entry for a role. -/
def roleItem (r : Role) (cls : EntryClass) (gap : Nat) (skippable : Bool) : ScriptItem :=
  { source := .role r, cls := cls, gap := gap, skippable := skippable }

/-- A script entry for one of the word's clips, not skippable. -/
def clipItem (n : Nat) (cls : EntryClass) (gap : Nat) : ScriptItem :=
  { source := .clip n, cls := cls, gap := gap, skippable := false }

/-- The letter names of a word, each with a gap of 250 ms before it (R70, R77). -/
def letterItems (cls : EntryClass) (ls : List Letter) : List ScriptItem :=
  ls.map fun l => roleItem (.letterName l) cls 250 false

/-- The base form of a presentation (R70). -/
def baseForm (style : Nat) (r : WordRecord) : List ScriptItem :=
  let word := clipItem r.wordClip .prompt 0
  if style = 1 ∨ r.standing = .shaky then
    match r.sentClip with
    | some c => [word, clipItem c .prompt 0, word]
    | none => [word]
  else [word]

/-- A presentation spells the word aloud: try 1 of a STRUGGLING word (R70). -/
def spellsAloud (tryNo : Nat) (r : WordRecord) : Bool :=
  decide (tryNo = 1) && decide (r.standing = .struggling)

/-- The presentation script for a try number (R70); up to 17 entries (DEDUCED,
notes/assumptions/20.md). -/
def presentation (style tryNo : Nat) (welcome : Bool) (r : WordRecord) : List ScriptItem :=
  (if welcome then [roleItem .welcomeBack .prompt 0 false] else []) ++
  (if tryNo = 1 then baseForm style r else [clipItem r.wordClip .prompt 0]) ++
  (if spellsAloud tryNo r then
     roleItem .listenSpell .prompt 0 false :: letterItems .prompt r.spelling
   else [])

/-- The spelling-out script (R77). -/
def spellingOut (r : WordRecord) : List ScriptItem :=
  [roleItem .theWordIs .feedback 0 false, clipItem r.wordClip .feedback 0] ++
  letterItems .feedback r.spelling ++ [clipItem r.wordClip .feedback 250]

/-- The feedback script of a RIGHT judgement (R74). -/
def praiseScript (i : Fin 3) : List ScriptItem := [roleItem (.praise i) .feedback 0 true]

/-- The feedback script of a WRONG judgement with tries left (R74). -/
def correction (slips : Nat) (r : WordRecord) : List ScriptItem :=
  (if slips = 1 then [roleItem .almost .feedback 0 true] else []) ++
  [roleItem .tryAgain .feedback 0 true, clipItem r.wordClip .prompt 0]

/-- The entry a script item makes when it is placed (R69, R127). -/
def itemEntry (c : ClipStore) (i : ScriptItem) : Entry :=
  { clip := match i.source with
      | .role r => roleClip c r
      | .clip n => n
    cls := i.cls, gap := i.gap, skippable := i.skippable, scripted := true }

/-- Entries of the present script in the UTTERANCE QUEUE. -/
def scriptedHeld (q : List Entry) : Nat := (q.filter (·.scripted)).length

/-- Places the next script entry; one that the queue drops is lost (R69). -/
def feed (w : Work) : Work :=
  match w.st.drill.script with
  | [] => w
  | i :: is => place (itemEntry w.st.clips i) { w with st.drill.script := is }

/-! ## Presenting (R64, R70) -/

/-- Enters PRESENT with the current word held and builds its presentation (R70). -/
def present (welcome : Bool) (w : Work) : Work :=
  match w.st.drill.current, currentRecord w.st with
  | some c, some r =>
    enterPhase .present .noReason
      { w with st.drill := { w.st.drill with
          script := presentation w.st.params.presentStyle c.tryNo welcome r
          current := some { c with spelledOut := c.spelledOut || spellsAloud c.tryNo r } } }
  | _, _ => enterPhase .present .noReason { w with st.drill.script := [] }

/-- A new word at the head of the DRILL QUEUE is taken and presented (R64). -/
def takeWord (i : Nat) (rest : List Nat) (w : Work) : Work :=
  present false
    { w with st.drill := { w.st.drill with
        queue := rest, attempt := []
        current := some { word := i, tryNo := 1, hints := 0, spelledOut := false,
                          lastVerdict := none } } }

/-- Settles the current word's outcome (R65). -/
def settleWord (s : State) : State :=
  match s.drill.current with
  | none => s
  | some c =>
    let out : Bool := match s.bank.slot c.word with
      | some r => decide (r.standing = .mastered) || decide (r.standing = .benched)
      | none => true
    let g := if c.lastVerdict = some .right then s.params.gapRight else s.params.gapWrong
    let q := s.drill.queue
    { s with drill := { s.drill with
        current := none
        queue := if out then q else q.take g ++ c.word :: q.drop g } }

/-! ## Pausing (R78) -/

/-- What every pause does, whatever its reason (R78). -/
def pauseDrill (reason : Reason) (w : Work) : Work :=
  let after := w.st.drill.phase = .feedback ∨ w.st.drill.phase = .spellout
  let w1 := engineFlush w
  let s1 := { w1.st with drill.script := [], keys.fifo := [], attn := stopAttention w1.st.attn }
  let s2 := if after then
      let t := settleWord s1
      { t with drill.attempt := [] }
    else s1
  enterPhase .paused reason { w1 with st := s2 }

/-- An audio fault reaches the drill (R80). -/
def audioFault (w : Work) : Work :=
  if w.st.drill.phase.underWay then pauseDrill .audio w
  else if w.st.drill.phase = .paused ∧ w.st.drill.reason ≠ .audio then enterPhase .paused .audio w
  else w

/-- A word boundary (R64): the lesson finishes (R83), a time-up is acted on (R88), or the head word
is taken. -/
def boundary (w : Work) : Work :=
  match w.st.drill.queue with
  | [] => placeRole .allDone .feedback (enterPhase .finished .noReason w)
  | i :: rest =>
    if w.st.lesson.timeUp then placeRole .timeUpBye .feedback (pauseDrill .timeUp w)
    else takeWord i rest w

/-- A word boundary is reached, as the drill enters PRESENT with no current word (R64). -/
def toBoundary (w : Work) : Work := boundary { w with st.drill.phase := .present }

/-- Enters PRESENT on a resume or at the end of OPENING: the held word again, or a word boundary
(R62, R82). -/
def toPresent (welcome : Bool) (w : Work) : Work :=
  match w.st.drill.current with
  | some _ => present welcome w
  | none => toBoundary { w with st.drill.reason := .noReason }

/-- Enters OPENING, which requests a load probe; a probe running already will not end it (R62). -/
def enterOpening (w : Work) : Work :=
  let w1 := enterPhase .opening .noReason w
  let o := w1.st.out
  { w1 with st.out := requestProbe { o with stale := decide (o.probe = .running) } }

/-! ## Listening (4.5) -/

/-- Enters LISTEN and starts the ATTENTION TIMER afresh (R71, R112). -/
def enterListen (w : Work) : Work :=
  let w1 := enterPhase .listen .noReason w
  { w1 with st.attn := { elapsed := 0, stage := 0, lastLetter := none, running := true } }

/-- Enters SPELLOUT with its script (R77). -/
def enterSpellout (r : WordRecord) (w : Work) : Work :=
  enterPhase .spellout .noReason { w with st.drill.script := spellingOut r }

/-- A GO with letters in LISTEN: the judgement, and the phase it leads to (R23, R39, R74, R76). -/
def judge (c : Current) (r : WordRecord) (w : Work) : Work :=
  let v := verdictOf r.spelling w.st.drill.attempt
  let slips := (slipsOf r.spelling w.st.drill.attempt).length
  let w1 := makeJudgement c r w
  let w2 : Work := { w1 with st.attn := stopAttention w1.st.attn }
  match v with
  | .right =>
    enterPhase .feedback .noReason
      { w2 with st.drill := { w2.st.drill with
          script := praiseScript w2.st.drill.praise, praise := w2.st.drill.praise + 1 } }
  | .wrong =>
    let benched := match w2.st.bank.slot c.word with
      | some r' => decide (r'.standing = .benched)
      | none => false
    if c.tryNo < w2.st.params.triesMax ∧ benched = false then
      enterPhase .feedback .noReason { w2 with st.drill.script := correction slips r }
    else enterSpellout r w2

/-- REPEAT: the word clip is placed as a PROMPT entry (R72). -/
def repeatWord (r : WordRecord) (w : Work) : Work := place (clipEntry r.wordClip .prompt) w

/-- The echo of an appended letter, as ECHO directs (R109). -/
def echoLetter (l : Letter) (w : Work) : Work :=
  if w.st.params.echo = 1 then placeEcho (roleEntry w.st.clips (.letterName l) .echo) w
  else if w.st.params.echo = 2 then placeEcho (roleEntry w.st.clips (.letterSound l) .echo) w
  else w

/-- A LETTER taken in LISTEN or FREE (R106). -/
def typeLetter (l : Letter) (w : Work) : Work :=
  if w.st.drill.attempt.length < Config.attemptPlaces then
    echoLetter l { w with st.drill.attempt := w.st.drill.attempt ++ [l] }
  else placeRole .fullBuzz .cue w

/-- A BACK taken in LISTEN or FREE (R107). -/
def rubOut (w : Work) : Work :=
  match w.st.drill.attempt with
  | [] => w
  | _ => placeRole .backClick .cue { w with st.drill.attempt := w.st.drill.attempt.dropLast }

/-- A HINT taken in LISTEN (R73). -/
def hint (c : Current) (r : WordRecord) (w : Work) : Work :=
  if c.hints + 1 < r.spelling.length then
    match r.spelling[c.hints]? with
    | some l =>
      let w1 := chargeHint c r
        { w with st.drill.current := some { c with hints := c.hints + 1 } }
      placeRole (.letterName l) .prompt
        (placeRole (if c.hints = 0 then .startsWith else .nextLetter) .prompt w1)
    | none => w
  else repeatWord r w

/-- A key event counts as engagement: a LETTER equal to the last letter and MASH do not (R113). -/
def engages (last : Option Letter) : KeyEvent → Bool
  | .key (.letter l) _ => !(last == some l)
  | .key _ _ => true
  | .mash => false

/-- The engagement test after an event taken in LISTEN, and the last letter (R113, R114); after a
judging GO it finds the timer stopped (DEDUCED, notes/assumptions/30.md). -/
def engage (e : KeyEvent) (a : AttentionTimer) : AttentionTimer :=
  let a1 := if engages a.lastLetter e then { a with elapsed := 0, stage := 0 } else a
  match e with
  | .key (.letter l) _ => { a1 with lastLetter := some l }
  | _ => a1

/-- What the DRILL ENGINE does with an event taken in LISTEN (R72, R73). -/
def listenKey (e : KeyEvent) (c : Current) (r : WordRecord) (w : Work) : Work :=
  match e with
  | .key (.letter l) _ => typeLetter l w
  | .key .back _ => rubOut w
  | .key .go _ => if w.st.drill.attempt = [] then repeatWord r w else judge c r w
  | .key .repeatWord _ => repeatWord r w
  | .key .hint _ => hint c r w
  | .key (.panel _) _ => w
  | .key .unmapped _ => w
  | .mash => placeRole .oneKey .cue w

/-- An event taken in LISTEN: its action, then its test for engagement (R113). -/
def takeInListen (e : KeyEvent) (w : Work) : Work :=
  match w.st.drill.current, currentRecord w.st with
  | some c, some r =>
    let w1 := listenKey e c r w
    { w1 with st.attn := engage e w1.st.attn }
  | _, _ => w

/-- A GO in FEEDBACK: the playing entry is cut when skippable, and the skippable entries waiting or
not yet placed are removed (R75). -/
def goInFeedback (w : Work) : Work :=
  let w1 := match w.st.speech.queue with
    | e :: _ => if w.st.speech.player.playing && e.skippable then leaveHead .cut w else w
    | [] => w
  { w1 with st := { w1.st with
      speech.queue := w1.st.speech.queue.filter fun e => !e.skippable
      drill.script := w1.st.drill.script.filter fun i => !i.skippable } }

/-- An event taken in FREE mode (R84): its KEY notice first, then its action. -/
def takeInFree (e : KeyEvent) (w : Work) : Work :=
  let w1 := w.raise (.key e)
  match e with
  | .key (.letter l) _ => typeLetter l w1
  | .key .back _ => rubOut w1
  | .key .go _ =>
    match w1.st.drill.attempt with
    | [] => w1
    | _ => { w1.raise (.line w1.st.drill.attempt) with st := { w1.st with drill.attempt := [] } }
  | .key .hint _ => w1
  | .key .repeatWord _ => w1
  | .key (.panel _) _ => w1
  | .key .unmapped _ => w1
  | .mash => placeRole .oneKey .cue w1

/-- A key event taken by the DRILL ENGINE, by mode and phase (5.5, R72, R75, R81, R84). -/
def takeEvent (e : KeyEvent) (w : Work) : Work :=
  match w.st.drill.mode with
  | .free => takeInFree e w
  | .setup => w
  | .drill =>
    match w.st.drill.phase, e with
    | .listen, e => takeInListen e w
    | .feedback, .key .go _ => goInFeedback w
    | .paused, .key .go _ => if w.st.drill.reason = .attention then toPresent true w else w
    | _, _ => w

/-- The oldest event leaves the KEY FIFO and is taken (R100). -/
def takeKey (w : Work) : Work :=
  match w.st.keys.fifo with
  | [] => w
  | e :: es => takeEvent e { w with st.keys.fifo := es }

/-! ## The ends of phases (R69, R71, R76, R77) -/

/-- The class of entries a phase waits on (R69). -/
def waitsOn : Phase → Option EntryClass
  | .present => some .prompt
  | .feedback | .spellout => some .feedback
  | _ => none

/-- The phase's speech is over: its script is done and no entry of the class it waits on waits or
plays (R69, R141). -/
def speechOver (s : State) : Bool :=
  match waitsOn s.drill.phase with
  | some c => s.drill.script.isEmpty && !s.speech.queue.any fun e => decide (e.cls = c)
  | none => false

/-- A retry of the current word (R76): PRESENT with an empty script. -/
def retry (c : Current) (w : Work) : Work :=
  enterPhase .present .noReason
    { w with st.drill := { w.st.drill with
        attempt := [], script := [], current := some { c with tryNo := c.tryNo + 1 } } }

/-- A phase whose speech is over ends: PRESENT in LISTEN (R71), FEEDBACK in a new word or a retry
(R76), SPELLOUT in a new word (R77). -/
def endPhase (w : Work) : Work :=
  match w.st.drill.phase with
  | .present => enterListen w
  | .feedback =>
    match w.st.drill.current with
    | some c =>
      if c.lastVerdict = some .wrong then retry c w
      else toBoundary { w with st := settleWord w.st }
    | none => toBoundary w
  | .spellout => toBoundary { w with st := settleWord w.st }
  | _ => w

end Sys2Proof.Machine
end

