-- ==== Sys2Proof/Machine/Cascade.lean ====
section
/-! DEFINITION. What follows from what within one event: the player takes entries, scripts are fed,
phases end and waiting key events are taken, until the part is at rest. -/

namespace Sys2Proof.Machine

open Sys2Proof

/-- A requested probe can start: the player is between entries (R132). -/
def probeDue (s : State) : Bool :=
  decide (s.speech.player = .idle) && decide (s.out.probe = .requested)

/-- The player takes the head entry (R129). -/
def takeDue (s : State) : Bool := decide (s.speech.player = .idle) && !s.speech.queue.isEmpty

/-- The head entry's gap of 0 passes straight to PLAY (R129). -/
def playDue (s : State) : Bool :=
  match s.speech.player, s.speech.queue with
  | .gap _, e :: _ => decide (e.gap = 0)
  | .gap _, [] => true
  | _, _ => false

/-- A script entry is placed: the script stands at most two entries ahead in the queue (R69). -/
def feedDue (s : State) : Bool :=
  !s.drill.script.isEmpty && decide (scriptedHeld s.speech.queue < 2)

/-- The DRILL ENGINE takes key events in this mode and phase (5.5), and no SLEEP is pending
(R162). -/
def takesKeys (s : State) : Bool :=
  !s.power.sleepPending &&
  match s.drill.mode, s.drill.phase with
  | .free, _ => true
  | .setup, _ => false
  | .drill, .opening => false
  | .drill, .present => false
  | .drill, _ => true

/-- A waiting key event is taken. -/
def keyDue (s : State) : Bool := takesKeys s && !s.keys.fifo.isEmpty

/-- The next thing that follows within the event, if any: the player first, then the script, the key
events that wait, and the end of a phase (DESIGN CHOICE, notes/assumptions/8.md). Events that wait
when FEEDBACK or SPELLOUT is entered are taken under it, before it can end (R71, R75; DEDUCED,
notes/assumptions/9.md). So are the events behind a GO that leaves FEEDBACK nothing to wait on,
though R75 ends it in that event and R64 and R108 let events wait at a retry or a word boundary
(DESIGN CHOICE, notes/assumptions/35.md). -/
def micro (w : Work) : Option Work :=
  if probeDue w.st then some (probeStarts w)
  else if takeDue w.st then some (takeHead w)
  else if playDue w.st then some (enterPlay w)
  else if feedDue w.st then some (feed w)
  else if keyDue w.st then some (takeKey w)
  else if speechOver w.st then some (endPhase w)
  else none

/-- The part is at rest: nothing more follows within the event. -/
def atRest (s : State) : Bool :=
  !probeDue s && !takeDue s && !playDue s && !feedDue s && !keyDue s && !speechOver s

/-- Runs what follows, at most this many times. -/
def runOn : Nat → Work → Work
  | 0, w => w
  | n + 1, w =>
    match micro w with
    | none => w
    | some w' => runOn n w'

/-- More than any event needs (notes/assumptions/8.md): at most eight key events wait, and what
follows from one ends within a script of 17 entries. -/
def cascadeFuel : Nat := 4096

/-- Runs the event on until the part is at rest. -/
def runToRest (w : Work) : Work := runOn cascadeFuel w

/-- The event runs on to its rest and its notices are offered. -/
def endEvent (w : Work) : State := dispose (runToRest w)

/-- An event ends and an idle transmitter chooses its next frame. -/
def conclude (w : Work) : State := transmit (endEvent w)

end Sys2Proof.Machine
end

