-- ==== Sys2Proof/Machine/BankRequests.lean ====
section
/-! DEFINITION. The requests of the WORD BANK and of the JUDGE's records (chapters 1 and 2): each
gives the state after it and the payload of its reply. -/

namespace Sys2Proof.Machine

open Sys2Proof

/-- What a request does: the state after it, its notices offered, and the payload of its reply. -/
abbrev Answer := State × List Byte

/-- A refused request: a result code alone, and nothing changed (R176, R190). -/
def refuse (r : Result) (s : State) : Answer := (s, r.only)

/-- A request carried out and answered OK with no more. -/
def okay (s : State) : Answer := (s, Result.ok.only)

/-- The history a new record starts with (R3). -/
def newRecord : WordRecord :=
  { spelling := [], wordClip := 0, sentClip := none, group := 0, enabled := false, strain := 0,
    standing := .fresh, latch := false, streak := 0, credit := 0, judged := 0, right := 0 }

/-- The strain option is given (11.5, bit 1). -/
def strainGiven (w : WordWrite) : Bool := flag w.flags 1

/-- The clear history option is given (11.5, bit 2). -/
def historyCleared (w : WordWrite) : Bool := flag w.flags 2

/-- The record a carried-out write leaves (R3, R11, R12). -/
def writtenRecord (p : Params) (w : WordWrite) (letters : List Letter) (old : Option WordRecord) :
    WordRecord :=
  let base := old.getD newRecord
  let r0 := { base with
    spelling := letters, wordClip := w.wordClip.toNat, sentClip := sentenceClip w.sentClip.toNat,
    group := w.group.toNat, enabled := flag w.flags 0 }
  let r1 := if strainGiven w then strainWrite p.returnCredit (min 256 w.strain.toNat) r0 else r0
  let r2 := if historyCleared w then clearHistory r1 else r1
  if strainGiven w || historyCleared w then derived p.warnLimit r2 else r2

/-- The reply of a carried-out write: OK, or CLAMPED with the strain 256 taken (R9, 11.5). -/
def writeReply (w : WordWrite) : List Byte :=
  if strainGiven w && decide (256 < w.strain.toNat) then Result.clamped.code :: le16 256
  else Result.ok.only

/-- A write that passes its checks is carried out as one change (R12, R17, R19). -/
def carryOutWrite (w : WordWrite) (letters : List Letter) (s : State) : State :=
  let i := w.index.toNat
  dispose
    (let x := changeRecord i (writtenRecord s.params w letters (s.bank.slot i)) s.begin
     { x with st := dropIneligible i x.st })

/-- WORD_PUT (R9, R12). -/
def actWordPut (w : WordWrite) (s : State) : Answer :=
  if s.drill.mode ≠ .setup then refuse .mode s
  else match checkWrite s.clips w with
    | none => refuse .badArg s
    | some letters => (carryOutWrite w letters s, writeReply w)

/-- The reservation slot is emptied (R14, R16). -/
def emptyReservation (s : State) : State := { s with bank.reservation := none }

/-- The first check of WORD_PUT_IF that fails, in the order of R16. -/
def putIfFails (w : WordWrite) (s : State) : Option Result :=
  match checkWrite s.clips w with
  | none => some .badArg
  | some letters =>
    match s.bank.slot w.index.toNat with
    | none => some .noWord
    | some r =>
      if s.drill.word = some w.index.toNat then some .inUse
      else if s.drill.mode = .drill ∧ r.spelling ≠ letters then some .mode
      else if s.bank.reservation ≠ some w.index.toNat then some .lost
      else none

/-- WORD_PUT_IF: whatever the answer, the reservation is consumed (R16, R17). -/
def actWordPutIf (w : WordWrite) (s : State) : Answer :=
  match putIfFails w s, checkWrite s.clips w with
  | none, some letters => (emptyReservation (carryOutWrite w letters s), writeReply w)
  | some .inUse, _ => (emptyReservation s, [Result.inUse.code, indexByte s.drill.word])
  | some r, _ => (emptyReservation s, r.only)
  | none, none => (emptyReservation s, Result.badArg.only)

/-- WORD_GET (R13). -/
def actWordGet (index flags : Byte) (s : State) : Answer :=
  if Config.wordSlots ≤ index.toNat then refuse .badArg s
  else match s.bank.slot index.toNat with
    | none => refuse .noWord s
    | some r =>
      (if flag flags 0 then { s with bank.reservation := some index.toNat } else s,
       Result.ok.code :: r.bytes index.toNat)

/-- WORD_DROP (R18, R19). -/
def actWordDrop (index : Byte) (s : State) : Answer :=
  if s.drill.mode ≠ .setup then refuse .mode s
  else if Config.wordSlots ≤ index.toNat then refuse .badArg s
  else match s.bank.slot index.toNat with
    | none => refuse .noWord s
    | some _ =>
      okay (dropIneligible index.toNat
        { s with bank := clearReservation (setSlot s.bank index.toNat none) index.toNat })

/-- JUDGEMENT_GET (R34). -/
def actJudgementGet (s : State) : Answer :=
  match s.judge.last with
  | some j => (s, [Result.ok.code, 1#8] ++ j.bytes)
  | none => (s, [Result.ok.code, 0#8])

/-- SLIP_GET: a held capture is returned and the record becomes EMPTY (R36). -/
def actSlipGet (s : State) : Answer :=
  match s.judge.capture with
  | some c => ({ s with judge.capture := none }, [Result.ok.code, 1#8] ++ c.bytes)
  | none => (s, [Result.ok.code, 0#8])

end Sys2Proof.Machine
end

