-- ==== Sys2Proof/Machine/DrillRequests.lean ====
section
/-! DEFINITION. The requests of the DRILL ENGINE (chapter 4). -/

namespace Sys2Proof.Machine

open Sys2Proof

/-- Indices of the listed words that are taken, in list order: eligible and not taken before
(R66). -/
def takeListed (b : WordBank) : List Nat → List Nat → List Nat
  | taken, [] => taken
  | taken, i :: is =>
    if eligible (b.slot i) && !taken.contains i then takeListed b (taken ++ [i]) is
    else takeListed b taken is

/-- The present words of the marked groups, in index order (R66). -/
def markedWords (b : WordBank) (groups : Byte) : List Nat :=
  (List.range Config.wordSlots).filter fun i =>
    match b.slot i with
    | some r => flag groups r.group
    | none => false

/-- The mode and phase in which QUEUE_LOAD is taken (R66). -/
def loadsQueue (d : Drill) : Bool :=
  decide (d.mode = .setup) || (decide (d.mode = .drill) && decide (d.phase = .finished))

/-- The old queue is discarded and the new one built; the reply carries the counts (R66). -/
def loadQueue (taken : List Nat) (listed : Nat) (s : State) : Answer :=
  ({ s with drill.queue := taken },
   [Result.ok.code, byte taken.length, byte (listed - taken.length)])

/-- QUEUE_LOAD by list (R66). -/
def actQueueLoadList (indices : List Byte) (s : State) : Answer :=
  let is := indices.map (·.toNat)
  if !loadsQueue s.drill then refuse .mode s
  else if Config.queuePlaces < is.length ∨ is.any (fun i => decide (Config.wordSlots ≤ i)) then
    refuse .badArg s
  else loadQueue (takeListed s.bank [] is) is.length s

/-- QUEUE_LOAD by group bitmap (R66). -/
def actQueueLoadGroups (groups : Byte) (s : State) : Answer :=
  if !loadsQueue s.drill then refuse .mode s
  else
    let marked := markedWords s.bank groups
    loadQueue ((marked.filter fun i => eligible (s.bank.slot i)).take Config.queuePlaces)
      marked.length s

/-- QUEUE_ADD (R67). -/
def actQueueAdd (index : Byte) (s : State) : Answer :=
  let i := index.toNat
  if s.drill.mode = .free then refuse .mode s
  else if Config.wordSlots ≤ i then refuse .badArg s
  else if (s.bank.slot i).isNone then refuse .noWord s
  else if !eligible (s.bank.slot i) || s.drill.queue.contains i || decide (s.drill.word = some i) then
    refuse .badArg s
  else if Config.queuePlaces ≤ s.drill.places then refuse .full s
  else okay { s with drill.queue := s.drill.queue ++ [i] }

/-- QUEUE_GET (R68). -/
def actQueueGet (s : State) : Answer :=
  (s, [Result.ok.code, indexByte s.drill.word, byte s.drill.queue.length] ++ s.drill.queue.map byte)

/-- START (R58). -/
def actStart (s : State) : Answer :=
  if s.drill.mode ≠ .setup then refuse .mode s
  else if s.clips.dir ≠ .ok then refuse .clips s
  else if s.out.tripped then refuse .audio s
  else if s.drill.queue = [] then refuse .mode s
  else okay (endEvent (enterOpening (State.begin
    { s with drill := { s.drill with mode := .drill, current := none }
             lesson := { seconds := 0, part := 0, timeUp := false } })))

/-- FREE_START (R59). -/
def actFreeStart (s : State) : Answer :=
  if s.drill.mode ≠ .setup then refuse .mode s
  else if s.clips.dir ≠ .ok then refuse .clips s
  else okay (dispose (enterPhase .noPhase .noReason (State.begin
    { s with drill := { s.drill with mode := .free, attempt := [] }, keys.fifo := [] })))

/-- PAUSE (R79). -/
def actPause (s : State) : Answer :=
  if s.drill.mode = .drill ∧ s.drill.phase.underWay then
    okay (endEvent (pauseDrill .request s.begin))
  else refuse .mode s

/-- The result that refuses a RESUME, by phase and reason, if any (R82). -/
def resumeFails (s : State) : Option Result :=
  if s.drill.mode ≠ .drill then some .mode
  else match s.drill.phase with
    | .paused =>
      match s.drill.reason with
      | .timeUp => if limitReached s.params s.lesson.seconds then some .limit else none
      | .audio => if s.out.tripped then some .audio else none
      | _ => none
    | .finished =>
      if s.out.tripped ∨ s.out.load = .openLoad then some .audio
      else if s.drill.queue = [] then some .mode
      else none
    | _ => some .mode

/-- A RESUME carried out (R82). -/
def resumeDrill (w : Work) : Work :=
  if w.st.drill.phase = .paused ∧ w.st.drill.reason = .audio then enterOpening w
  else toPresent (decide (w.st.drill.reason = .attention)) w

/-- RESUME (R82). -/
def actResume (s : State) : Answer :=
  match resumeFails s with
  | some r => refuse r s
  | none => okay (endEvent (resumeDrill s.begin))

/-- What STOP in DRILL mode does before the mode changes (R60). -/
def stopLesson (w : Work) : Work :=
  let w1 := engineFlush w
  { w1 with st := { w1.st with
      drill := { w1.st.drill with queue := [], current := none, script := [], attempt := [] }
      keys.fifo := []
      lesson := { w1.st.lesson with timeUp := false }
      attn := stopAttention w1.st.attn } }

/-- What STOP in FREE mode does before the mode changes (R60); every STOP clears the time-up pending
mark (R86). -/
def stopFree (w : Work) : Work :=
  let w1 := flushClasses freeClass w
  { w1 with st := { w1.st with
      drill := { w1.st.drill with attempt := [] }
      keys.fifo := []
      lesson := { w1.st.lesson with timeUp := false } } }

/-- STOP (R60). -/
def actStop (s : State) : Answer :=
  match s.drill.mode with
  | .setup => refuse .mode s
  | .drill =>
    let w := stopLesson s.begin
    okay (endEvent (enterPhase .noPhase .noReason { w with st.drill.mode := .setup }))
  | .free =>
    let w := stopFree s.begin
    okay (endEvent (enterPhase .noPhase .noReason { w with st.drill.mode := .setup }))

/-- A write of LESSON_LIMIT, already within 0 to 240, sets or clears the time-up pending mark (R86,
R87). -/
def writeLimit (minutes : Nat) (s : State) : State :=
  let p := { s.params with lessonLimit := minutes }
  { s with params := p, lesson.timeUp := limitReached p s.lesson.seconds }

/-- LESSON_LIMIT (R87). -/
def actLessonLimit (minutes : Word16) (s : State) : Answer :=
  let m := minutes.toNat
  if 240 < m then (writeLimit 240 s, Result.clamped.code :: le16 240)
  else (writeLimit m s, Result.ok.code :: le16 m)

end Sys2Proof.Machine
end

