-- ==== Sys2Proof/Machine/Parameters.lean ====
section
/-! DEFINITION. The parameters: identifiers, ranges, classes, reading and writing (10.7, 11.8). -/

namespace Sys2Proof.Machine

open Sys2Proof

/-- The parameters of R184. -/
inductive Param where
  | triesMax | gapRight | gapWrong | warnLimit | masterStreak | benchReturn | returnCredit
  | presentStyle | attnPeriod | attnSleep | debounce | capSpeaker | capPhones | surgeLimit
  | surgeAction | echo | volume | autoTrim | lessonLimit
  deriving DecidableEq, Repr

/-- The parameter an identifier names (11.8). -/
def Param.ofId (b : Byte) : Option Param :=
  match b.toNat with
  | 0x01 => some .triesMax | 0x02 => some .gapRight | 0x03 => some .gapWrong
  | 0x04 => some .warnLimit | 0x05 => some .masterStreak | 0x06 => some .benchReturn
  | 0x07 => some .returnCredit | 0x08 => some .presentStyle | 0x09 => some .attnPeriod
  | 0x0A => some .attnSleep | 0x0B => some .debounce | 0x0C => some .capSpeaker
  | 0x0D => some .capPhones | 0x0E => some .surgeLimit | 0x0F => some .surgeAction
  | 0x10 => some .echo | 0x11 => some .volume | 0x12 => some .autoTrim | 0x13 => some .lessonLimit
  | _ => none

/-- The lowest and highest value of a parameter (R184). -/
def Param.range : Param → Nat × Nat
  | .triesMax => (1, 5) | .gapRight => (1, 31) | .gapWrong => (1, 31) | .warnLimit => (16, 127)
  | .masterStreak => (1, 7) | .benchReturn => (0, 1) | .returnCredit => (4, 64)
  | .presentStyle => (0, 1) | .attnPeriod => (5, 120) | .attnSleep => (0, 1) | .debounce => (5, 40)
  | .capSpeaker => (1, 31) | .capPhones => (1, 24) | .surgeLimit => (1, 15)
  | .surgeAction => (0, 1) | .echo => (0, 2) | .volume => (0, 31) | .autoTrim => (0, 1)
  | .lessonLimit => (0, 240)

/-- A live parameter may be written in any mode; the others in SETUP only (R184). -/
def Param.live : Param → Bool
  | .echo | .volume | .autoTrim | .lessonLimit => true
  | _ => false

/-- The value a parameter holds. -/
def Param.read (p : Params) : Param → Nat
  | .triesMax => p.triesMax | .gapRight => p.gapRight | .gapWrong => p.gapWrong
  | .warnLimit => p.warnLimit | .masterStreak => p.masterStreak | .benchReturn => p.benchReturn
  | .returnCredit => p.returnCredit | .presentStyle => p.presentStyle
  | .attnPeriod => p.attnPeriod | .attnSleep => p.attnSleep | .debounce => p.debounce
  | .capSpeaker => p.capSpeaker | .capPhones => p.capPhones | .surgeLimit => p.surgeLimit
  | .surgeAction => p.surgeAction | .echo => p.echo | .volume => p.volume
  | .autoTrim => p.autoTrim | .lessonLimit => p.lessonLimit

/-- The parameters with one of them written. -/
def Param.write (p : Params) (v : Nat) : Param → Params
  | .triesMax => { p with triesMax := v } | .gapRight => { p with gapRight := v }
  | .gapWrong => { p with gapWrong := v } | .warnLimit => { p with warnLimit := v }
  | .masterStreak => { p with masterStreak := v } | .benchReturn => { p with benchReturn := v }
  | .returnCredit => { p with returnCredit := v } | .presentStyle => { p with presentStyle := v }
  | .attnPeriod => { p with attnPeriod := v } | .attnSleep => { p with attnSleep := v }
  | .debounce => { p with debounce := v } | .capSpeaker => { p with capSpeaker := v }
  | .capPhones => { p with capPhones := v } | .surgeLimit => { p with surgeLimit := v }
  | .surgeAction => { p with surgeAction := v } | .echo => { p with echo := v }
  | .volume => { p with volume := v } | .autoTrim => { p with autoTrim := v }
  | .lessonLimit => { p with lessonLimit := v }

/-- A value brought into a parameter's range (R185). -/
def Param.clamp (x : Param) (v : Nat) : Nat := max x.range.1 (min x.range.2 v)

/-- The standing of the word at an index is derived under the WARN_LIMIT now held; only a changed
standing is a change to the record (R7). -/
def rederive (w : Work) (i : Nat) : Work :=
  match w.st.bank.slot i with
  | some r =>
    let r' := derived w.st.params.warnLimit r
    if r'.standing = r.standing then w else changeRecord i r' w
  | none => w

/-- A parameter takes a value already within its range, and the blocks that read it act on it: a
WARN_LIMIT change derives every standing afresh (R7), a VOLUME write sets r to 0 (R143), a
LESSON_LIMIT write sets or clears the time-up pending mark (R87). -/
def writeParam (x : Param) (v : Nat) (s : State) : State :=
  let s1 := { s with params := x.write s.params v }
  match x with
  | .warnLimit =>
    if v = s.params.warnLimit then s1
    else dispose ((List.range Config.wordSlots).foldl rederive s1.begin)
  | .volume => { s1 with out.trimDown := 0 }
  | .lessonLimit => writeLimit v s
  | _ => s1

/-- SET (R185). -/
def actSet (id : Byte) (value : Word16) (s : State) : Answer :=
  match Param.ofId id with
  | none => refuse .badArg s
  | some x =>
    if x.live = false ∧ s.drill.mode ≠ .setup then refuse .mode s
    else
      let v := x.clamp value.toNat
      (writeParam x v s,
       (if v = value.toNat then Result.ok.code else Result.clamped.code) :: id :: le16 v)

/-- GET (R186). -/
def actGet (id : Byte) (s : State) : Answer :=
  match Param.ofId id with
  | none => refuse .badArg s
  | some x => (s, Result.ok.code :: id :: le16 (x.read s.params))

end Sys2Proof.Machine
end

