-- ==== Sys2Proof/Machine/DeviceRequests.lean ====
section
/-! DEFINITION. The requests of the KEY SCANNER, the SPEECH PLAYER, the OUTPUT STAGE, the POWER
CONTROLLER and the LINK PORT (chapters 5 and 7 to 10). -/

namespace Sys2Proof.Machine

open Sys2Proof

/-! ## Keys -/

/-- How many entries of a key map carry a code. -/
def codeCount (codes : List KeyCode) (c : KeyCode) : Nat := (codes.filter (· = c)).length

/-- The tests of R91: every letter, GO and BACK stands exactly once. -/
def keyMapOk (codes : List KeyCode) : Bool :=
  (List.range 26).all (fun l => (codes.filter (·.setBit == some l)).length == 1) &&
    codeCount codes .go == 1 && codeCount codes .back == 1

/-- KEYMAP (R91); an entry that is no code is BAD_ARG. -/
def actKeymap (codes : List Byte) (s : State) : Answer :=
  if s.drill.mode ≠ .setup then refuse .mode s
  else match codes.mapM KeyCode.ofByte with
    | none => refuse .badArg s
    | some cs =>
      if h : cs.length = 48 ∧ keyMapOk cs = true then
        okay { s with keys.keyMap := ⟨cs.toArray, by simpa using h.1⟩ }
      else refuse .badArg s

/-- KEYSETS (R99, R189): a bit beyond the 42 codes in either set is refused. -/
def actKeysets (accept wake : BitVec 48) (s : State) : Answer :=
  if 2 ^ 42 ≤ accept.toNat ∨ 2 ^ 42 ≤ wake.toNat then refuse .badArg s
  else okay { s with keys.accept := accept.setWidth 42, keys.wakeSet := wake.setWidth 42 }

/-! ## Speech -/

/-- The first check of SAY that fails, in the order of R135. -/
def sayFails (gap : Nat) (clips : List Nat) (s : State) : Option Result :=
  if clips.length = 0 ∨ 8 < clips.length ∨ clips.any (fun c => decide (c = 0 ∨ 1023 < c)) ∨
      200 < gap then some .badArg
  else if s.clips.dir ≠ .ok then some .clips
  else if clips.any (fun c => decide (s.clips.count < c)) then some .badArg
  else if s.out.load = .openLoad ∨ s.out.tripped then some .audio
  else if Config.utterancePlaces - s.speech.queue.length < clips.length then some .full
  else none

/-- SAY (R135); the gap is in units of 10 ms. -/
def actSay (tag gap : Byte) (clips : List Word16) (s : State) : Answer :=
  let cs := clips.map (·.toNat)
  match sayFails gap.toNat cs s with
  | some r => refuse r s
  | none =>
    okay (endEvent (State.begin
      { s with speech.queue := s.speech.queue ++ saidEntries tag (10 * gap.toNat) cs }))

/-- HUSH (R136): the reply carries the number of SAID entries removed or cut. -/
def actHush (s : State) : Answer :=
  let n := (s.speech.queue.filter fun e => e.cls.isSaid).length
  if n = 0 then (s, [Result.ok.code, 0#8])
  else (endEvent (flushSaid s.begin), [Result.ok.code, byte n])

/-- A directory read begins (R123). -/
def startRead (s : State) : State := { s with clips := readingDirectory }

/-- RELOAD_CLIPS (R125). -/
def actReloadClips (s : State) : Answer :=
  if s.drill.mode = .setup ∧ (s.clips.dir = .ok ∨ s.clips.dir = .bad) ∧ s.speech.queue = [] ∧
      s.speech.player.playing = false then okay (startRead s)
  else refuse .mode s

/-! ## Output -/

/-- GUARD_CLEAR (R160). -/
def actGuardClear (s : State) : Answer :=
  if s.out.probe = .running then refuse .busy s
  else okay (endEvent (State.begin
    { s with out := requestProbe { s.out with tripped := false, trimDown := 0 } }))

/-- The probe byte of AUDIO_GET: the state in bits 0 to 1, the one-more mark in bit 7 (11.5). -/
def probeByte (o : OutputStage) : Byte := byte (o.probe.code + (if o.oneMore then 128 else 0))

/-- AUDIO_GET (R151). -/
def actAudioGet (flags : Byte) (s : State) : Answer :=
  let o := s.out
  (if flag flags 0 then { s with out := { o with clipCount := 0, clipOverflow := false } } else s,
   [Result.ok.code, o.load.code, jackByte o.jack, probeByte o, guardByte o.tripped,
    byte s.params.volume, byte ((capInForce s.params o.load).getD 0), byte o.trimDown,
    byte (effectiveStep s.params o), byte o.clipCount, boolByte o.clipOverflow])

/-! ## Power -/

/-- SLEEP is taken in SETUP, and in DRILL in PAUSED and FINISHED (R162). -/
def sleepAllowed (d : Drill) : Bool :=
  decide (d.mode = .setup) ||
    (decide (d.mode = .drill) && (decide (d.phase = .paused) || decide (d.phase = .finished)))

/-- SLEEP: the entry is made when the reply has left (R162). -/
def actSleep (s : State) : Answer :=
  if sleepAllowed s.drill then okay { s with power.sleepPending := true } else refuse .mode s

/-! ## Link -/

/-- HELLO (R182). -/
def actHello (s : State) : Answer :=
  (s, Result.ok.code :: le16 310 ++ [Config.revision, rateByte s.link.rate, byte Config.wordSlots,
       byte Config.queuePlaces, byte Config.utterancePlaces, byte Config.fifoPlaces,
       byte Config.reportPlaces, byte Config.attemptPlaces] ++ le16 Config.receiveBytes ++
      [byte Config.maxPayload, byte Config.roles] ++ le16 s.clips.count)

/-- The marks byte of the STATUS record (11.7). -/
def statusMarks (s : State) : Byte :=
  byte ((if s.lesson.timeUp then 1 else 0) + (if s.power.slept then 2 else 0) +
    (if s.keys.overrun then 4 else 0) + (if s.link.overrun then 8 else 0))

/-- The STATUS record (R183, 11.7); every STATUS is taken in ACTIVE. -/
def statusRecord (s : State) : List Byte :=
  [s.drill.mode.code, s.drill.phase.code, s.drill.reason.code, indexByte s.drill.word,
   byte s.drill.queue.length, byte s.drill.attempt.length, byte s.speech.queue.length,
   s.clips.dir.code, s.out.load.code, guardByte s.out.tripped, byte s.params.volume,
   byte (effectiveStep s.params s.out)] ++ le16 s.lesson.seconds ++ le16 s.params.lessonLimit ++
  [byte s.attn.stage, 0#8, s.power.wakeReason.code, statusMarks s]

/-- STATUS (R183). -/
def actStatus (flags : Byte) (s : State) : Answer :=
  (if flag flags 0 then { s with power.slept := false, keys.overrun := false } else s,
   Result.ok.code :: statusRecord s)

/-- The mask that a notice set gives, with STARTED and OVERRUN enabled (R180): bit n stands for kind
E0 + n (11.3), and a set bit is the mark 'enabled', a clear one 'masked' (DESIGN CHOICE,
notes/assumptions/36.md). -/
def maskHeld (set : Word16) : BitVec 14 := set.setWidth 14 ||| 0x2001#14

/-- NOTICE_MASK (R180, R189): a mark beyond the 14 kinds is refused. -/
def actNoticeMask (set : Word16) (s : State) : Answer :=
  if 2 ^ 14 ≤ set.toNat then refuse .badArg s
  else ({ s with link.mask := maskHeld set }, Result.ok.code :: le16 (maskHeld set).toNat)

/-- RESET with option SOFT: pending on its reply (R187). -/
def actResetSoft (s : State) : Answer := okay { s with link.resetPending := some .soft }

/-- RESET with option FULL: pending on its reply (R188). -/
def actResetFull (s : State) : Answer := okay { s with link.resetPending := some .full }

/-- The block that owns the request's kind acts on it (R175, R176). -/
def act (tag : Byte) (r : Request) (s : State) : Answer :=
  match r with
  | .hello => actHello s
  | .status f => actStatus f s
  | .resetSoft => actResetSoft s
  | .resetFull => actResetFull s
  | .set i v => actSet i v s
  | .get i => actGet i s
  | .noticeMask m => actNoticeMask m s
  | .wordPut w => actWordPut w s
  | .wordPutIf w => actWordPutIf w s
  | .wordGet i f => actWordGet i f s
  | .wordDrop i => actWordDrop i s
  | .queueLoadList l => actQueueLoadList l s
  | .queueLoadGroups g => actQueueLoadGroups g s
  | .queueAdd i => actQueueAdd i s
  | .queueGet => actQueueGet s
  | .start => actStart s
  | .freeStart => actFreeStart s
  | .pause => actPause s
  | .resume => actResume s
  | .stop => actStop s
  | .lessonLimit m => actLessonLimit m s
  | .judgementGet => actJudgementGet s
  | .slipGet => actSlipGet s
  | .keymap l => actKeymap l s
  | .keysets a w => actKeysets a w s
  | .say g l => actSay tag g l s
  | .hush => actHush s
  | .reloadClips => actReloadClips s
  | .guardClear => actGuardClear s
  | .audioGet f => actAudioGet f s
  | .sleep => actSleep s

end Sys2Proof.Machine
end

