-- ==== Sys2Proof/Machine/PowerOps.lean ====
section
/-! DEFINITION. Resets, the entry to SLEEP and the end of the wake settle (chapter 9, 10.8). -/

namespace Sys2Proof.Machine

open Sys2Proof

/-! ## SOFT and FULL resets (R187, R188) -/

/-- The UTTERANCE QUEUE is emptied and a playing entry cut, its close made and no SPEECH_DONE raised
(R128, R149); a player HELD by a probe stays HELD. -/
def resetSpeech (s : State) : State :=
  let out := match s.speech.player with
    | .play _ => closeEntry s.params s.out
    | _ => s.out
  let spi := if s.speech.player.playing then none else s.clips.spi
  { s with out := { out with surges := 0 }, clips.spi := spi
           speech := { queue := [], player := if s.speech.player = .held then .held else .idle } }

/-- What a SOFT reset clears (R187); everything else is kept. -/
def softReset (s : State) : State :=
  let t := resetSpeech s
  { t with
    drill := { mode := .setup, phase := .noPhase, reason := .noReason, queue := [],
               current := none, praise := 0, script := [], attempt := [] }
    keys := { t.keys with fifo := [], overrun := false }
    link := { t.link with report := [], overrun := false, resetPending := none }
    bank.reservation := none
    judge := { last := none, capture := none }
    lesson := { seconds := 0, part := 0, timeUp := false }
    attn := { elapsed := 0, stage := 0, lastLetter := none, running := false }
    power := { t.power with settle := false, sleepPending := false } }

/-- What a FULL reset does (R188): the close of the playing entry first (DEDUCED,
notes/assumptions/21.md). -/
def fullReset (s : State) : State :=
  let t := softReset s
  startRead
    { t with
      bank := { slots := Vector.replicate 96 none, reservation := none }
      params := Params.defaults
      keys := { t.keys with keyMap := defaultKeyMap, accept := BitVec.allOnes 42,
                            wakeSet := defaultWakeSet }
      link := { t.link with mask := BitVec.allOnes 14 } }

/-- A pending reset is applied; a probe that waited for the entry cut by it can start. -/
def applyReset (k : ResetKind) (s : State) : State :=
  endEvent (State.begin (match k with
    | .soft => softReset s
    | .full => fullReset s))

/-- Power-on and pin reset: every block at its reset value (R161, R181); the flash holds what it
held, and the commands that wait stay in their queue. -/
def hardReset (rate : LinkRate) (jack : Jack) (cause : ResetCause) (s : State) : State :=
  { State.afterReset rate jack cause with flash := s.flash, pending := s.pending }

/-! ## Entry to SLEEP (R164) -/

/-- The receiver and the wake that the held bytes make at the entry: the first frame held counts as
the waking frame (R164, R167); the rest is discarded. An overflow discard ends here (DEDUCED,
notes/assumptions/17.md). -/
def receiverAtEntry (l : LinkPort) : Receiver × Bool :=
  match l.frames, l.rx with
  | _ :: _, _ => (.hunt, true)
  | [], .frame (_ :: n :: more) => (.wakeDiscard (5 + n.toNat - (2 + more.length)), true)
  | [], .frame _ => (.wakeLength, true)
  | [], r => (if r.wakeFrame then r else .hunt, false)

/-- A directory read in progress is abandoned (R126). -/
def sleepClips (c : ClipStore) : ClipStore :=
  if c.dir = .reading then
    { dir := .unread, count := 0, roles := Vector.replicate 70 0, spi := none }
  else { c with spi := none }

/-- The KEY SCANNER at the entry: timers discarded, down-count and lockout cleared, the KEY FIFO
cleared, its overrun mark kept (R98, R101). -/
def sleepKeys (k : KeyScanner) : KeyScanner :=
  { k with keys := Vector.ofFn fun i => { k.keys[i] with timer := none }
           downCount := 0, lockout := false, fifo := [] }

/-- The entry to SLEEP, every block (R164); bytes held in the receive buffer wake the part at once
with reason LINK. -/
def enterSleep (w : Work) : Work :=
  let w1 := fullFlush w
  let s := w1.st
  let rx := receiverAtEntry s.link
  { w1 with st := { s with
      speech := { queue := [], player := .idle }
      out := sleepOutput s.out
      clips := sleepClips s.clips
      keys := sleepKeys s.keys
      link := { s.link with frames := [], rx := rx.1 }
      power := { s.power with
        power := .sleep, sleepPending := false, settle := rx.2
        wakeReason := if rx.2 then .link else s.power.wakeReason
        wakeKey := if rx.2 then none else s.power.wakeKey } } }

/-! ## The end of the wake settle (R168) -/

/-- The blocks at the end of the settle, in the event that ends it: the slept-since-status mark and
the WAKE notice (R169), the JACK level and the probe request (R152, R153), a directory read where
one was abandoned (R126), and the resume of an attention pause by a waking key (R170). -/
def wakeBlocks (jack : Jack) (s : State) : Work :=
  let s1 := { s with
    out := requestProbe { s.out with jack := jack }
    clips := if s.clips.dir = DirState.unread then readingDirectory else s.clips
    power := { s.power with slept := true } }
  let w := s1.begin.raise (.wake s.power.wakeReason s.power.wakeKey)
  if s.power.wakeReason = .key ∧ s.drill.mode = .drill ∧ s.drill.phase = .paused ∧
      s.drill.reason = .attention then toPresent true w
  else w

end Sys2Proof.Machine
end

