-- ==== Sys2Proof/Machine/LinkOps.lean ====
section
/-! DEFINITION. The LINK PORT: receiving bytes, taking requests and sending frames (chapter 10). -/

namespace Sys2Proof.Machine

open Sys2Proof

/-! ## Taking requests (10.3) -/

/-- A request whose payload length is not its kind's is answered BAD_ARG (R176); a WORD_PUT_IF, kind
11, consumes the reservation whatever its answer (R14, R16; DEDUCED, notes/assumptions/18.md). -/
def refuseLength (kind : Byte) (s : State) : Answer :=
  refuse .badArg (if kind = 0x11#8 then emptyReservation s else s)

/-- The answer to a frame taken (R176). -/
def answer (f : Frame) (s : State) : Answer :=
  match parseRequest f with
  | .badKind => refuse .badKind s
  | .badArg => refuseLength f.kind s
  | .request r => act f.tag r s

/-- A frame is taken as a request: the owner acts and the reply is placed (R175). -/
def takeFrame (f : Frame) (s : State) : State :=
  let a := answer f s
  placeReply f.kind f.tag a.2 a.1

/-- The frame at the head of the receive buffer is taken when a request can be (R175). -/
def takeWaiting (s : State) : State :=
  if canTake s then
    match s.link.frames with
    | [] => s
    | f :: fs => takeFrame f { s with link.frames := fs }
  else s

/-! ## Receiving (10.1, 10.2) -/

/-- A LINK_FAULT notice is raised and the receiver goes on from this state (R174). -/
def linkFault (cause : LinkCause) (kind : Option Byte) (rx : Receiver) (s : State) : State :=
  finish ((State.begin { s with link.rx := rx }).raise (.linkFault cause kind))

/-- The receiver's state after an overflow, with the bytes of the frame held before the lost one
(R173): what is left of the frame is discarded (DEDUCED, notes/assumptions/15.md and 16.md). -/
def afterOverflow : List Byte → Receiver
  | [] => .discardLength
  | [_] => .discardSilence
  | _ :: n :: more =>
    let left := 5 + n.toNat - (3 + more.length)
    if left = 0 then .hunt else .discard left

/-- Further bytes of a frame, its length byte just read: kind, tag, payload and check (R167,
R173). -/
def restOf (n : Byte) : Nat := n.toNat + 3

/-- One byte fewer to discard. -/
def oneFewer (n : Nat) (more : Nat → Receiver) : Receiver := if n ≤ 1 then .hunt else more (n - 1)

/-- A byte of the frame in progress, which holds these bytes before it (R171). -/
def frameByte (bs : List Byte) (b : Byte) (s : State) : State :=
  match bs ++ [b] with
  | [_, n] =>
    if Config.maxPayload < n.toNat then linkFault .check none .hunt s
    else { s with link.rx := .frame (bs ++ [b]) }
  | _ :: n :: kind :: tag :: rest =>
    if rest.length < n.toNat + 1 then { s with link.rx := .frame (bs ++ [b]) }
    else if byteSum (n :: kind :: tag :: rest) = 0#8 then
      transmit (takeWaiting { s with link :=
        { s.link with rx := .hunt
                      frames := s.link.frames ++
                        [{ kind := kind, tag := tag, payload := rest.dropLast }] } })
    else linkFault .check (some kind) .hunt s
  | bs' => { s with link.rx := .frame bs' }

/-- A byte arrives on RXD (R165, R167, R171, R173). -/
def receive (b : Byte) (s0 : State) : State :=
  let s := { s0 with link.silence := 0 }
  if s.power.power = .sleep ∧ s.power.settle = false ∧ s.link.rx.wakeFrame = false then
    if b = Config.startByte then
      { s with link.rx := .wakeLength
               power := { s.power with settle := true, wakeReason := .link, wakeKey := none } }
    else s
  else match s.link.rx with
    | .hunt =>
      if b = Config.startByte then
        if Config.receiveBytes ≤ s.link.held then linkFault .overflow none .discardLength s
        else { s with link.rx := .frame [b] }
      else s
    | .frame bs =>
      if Config.receiveBytes ≤ s.link.held then linkFault .overflow bs[2]? (afterOverflow bs) s
      else frameByte bs b s
    | .discardLength =>
      { s with link.rx := if Config.maxPayload < b.toNat then .hunt else .discard (restOf b) }
    | .discard n => { s with link.rx := oneFewer n .discard }
    | .discardSilence => s
    | .wakeLength =>
      { s with link.rx := if Config.maxPayload < b.toNat then .hunt else .wakeDiscard (restOf b) }
    | .wakeDiscard n => { s with link.rx := oneFewer n .wakeDiscard }

/-- Bytes arrive one after another. -/
def receiveAll (bs : List Byte) (s : State) : State := bs.foldl (fun t b => receive b t) s

/-- The time-outs of R172 apply: ACTIVE, or the wake settle. -/
def receives (p : PowerControl) : Bool := p.power == .active || p.settle

/-- The kind byte of a frame in progress, when it has arrived (R174). -/
def kindArrived : Receiver → Option Byte
  | .frame bs => bs[2]?
  | _ => none

/-! ## A whole request from the host -/

/-- The host sends a whole request frame. With the LINK PORT ready it is taken at once; otherwise
its bytes arrive one by one and meet what the receiver is doing (R171, R173, R175). -/
def deliver (tag : Byte) (r : Request) (s : State) : State :=
  if ready s then
    let s1 := { s with link.silence := 0 }
    let a := if requestLengthOk r then act tag r s1 else refuseLength (requestKind r) s1
    transmit (placeReply (requestKind r) tag a.2 a.1)
  else receiveAll (requestFrame tag r).bytes s

/-- The host sends a frame of any kind and payload. -/
def deliverFrame (f : Frame) (s : State) : State :=
  if ready s then transmit (takeFrame f { s with link.silence := 0 })
  else receiveAll f.bytes s

/-! ## Sending (10.4) -/

/-- A reply's last byte has left: a pending SLEEP is entered (R162), a pending reset applied (R187),
and the next request taken (R175). In SLEEP the reset stays pending (R163). -/
def replySent (s0 : State) : State :=
  let s := { s0 with link.reply := none }
  if s.power.sleepPending then dispose (enterSleep s.begin)
  else if s.power.power = .active then
    match s.link.resetPending with
    | some k => takeWaiting (applyReset k s)
    | none => takeWaiting s
  else s

/-- The last byte of a frame leaves TXD (R177). -/
def frameSent (s : State) : State :=
  match s.link.tx with
  | none => s
  | some f =>
    let s1 := { s with link.tx := none }
    if f.isReply then transmit (replySent s1)
    else transmit { s1 with link := noticeSent s1.link }

end Sys2Proof.Machine
end

