-- ==== Sys2Proof/Machine/KeyOps.lean ====
section
/-! DEFINITION. The KEY SCANNER's scans: debounce, rollover, mash lockout and the wake scan
(chapter 5). -/

namespace Sys2Proof.Machine

open Sys2Proof

/-- What the test of R92 makes of a position: its new level and timer, and whether the change was
accepted. -/
structure Tested where
  pos      : Position
  accepted : Bool
  deriving DecidableEq, Repr

/-- The test of R92 of one position at a scan at time `now`. -/
def debounce (wait now : Nat) (raw : Bool) (p : Position) : Tested :=
  if raw = p.down then { pos := { p with timer := none }, accepted := false }
  else match p.timer with
    | none => { pos := { p with timer := some now }, accepted := false }
    | some t =>
      if t + wait ≤ now then { pos := { down := raw, timer := none }, accepted := true }
      else { pos := p, accepted := false }

/-- The tests of a full scan (R93). -/
def testAll (wait now : Nat) (levels : BitVec 48) (keys : Vector Position 48) : Vector Tested 48 :=
  Vector.ofFn fun i => debounce wait now (levels.getLsbD i.val) keys[i]

/-- The positions whose accepted change is to this level, in increasing order. -/
def acceptedAt (down : Bool) (ts : Vector Tested 48) : List Nat :=
  (ts.toList.zipIdx.filter fun x => x.1.accepted && x.1.pos.down == down).map (·.2)

/-- The code the key map gives a position now (R90, R94). -/
def codeAt (k : KeyScanner) (pos : Nat) : KeyCode :=
  if h : pos < 48 then k.keyMap[pos] else .unmapped

/-- The number of positions read down. -/
def countDown (levels : BitVec 48) : Nat :=
  ((List.range 48).filter fun i => levels.getLsbD i).length

/-- The first full scan after a power-on or pin reset or a wake: every level afresh, no event, mash
lockout when 3 or more are down (R93). A full scan advances the scan clock by 2 ms (DESIGN CHOICE,
notes/assumptions/7.md). -/
def firstScan (levels : BitVec 48) (k : KeyScanner) : KeyScanner :=
  { k with keys := Vector.ofFn fun i => { down := levels.getLsbD i.val, timer := none }
           firstScan := false, scanTime := k.scanTime + 2, downCount := countDown levels
           lockout := decide (3 ≤ countDown levels) }

/-- A full scan's tests, and its accepted releases (R92, R93, R96): the scanner before its presses
are handled. -/
def scanReleases (ts : Vector Tested 48) (k : KeyScanner) : KeyScanner :=
  let rel := (acceptedAt false ts).length
  let d := k.downCount - rel
  { k with keys := Vector.ofFn fun i => (ts[i]).pos
           scanTime := k.scanTime + 2, downCount := d
           lockout := k.lockout && !(decide (0 < rel) && decide (d = 0)) }

/-- A press handled under step 3 of R94: a panel press raises a KEY notice (R103), another code
makes a key event (R100), NONE and codes not accepted make nothing (R97). -/
def press (pos : Nat) (s : State) : Work :=
  let code := codeAt s.keys pos
  if inSet s.keys.accept code then
    match code with
    | .panel _ => s.begin.raise (.key (.key code pos))
    | _ => State.begin (offerKey (.key code pos) s)
  else s.begin

/-- The presses accepted at one scan, handled together (R94, R95): each runs to its end before the
next. -/
def handlePresses (presses : List Nat) (s : State) : State :=
  let total := s.keys.downCount + presses.length
  let s1 := { s with keys.downCount := total }
  if presses = [] ∨ s.keys.lockout then s1
  else if 3 ≤ total then
    endEvent (State.begin (offerKey .mash { s1 with keys.lockout := true }))
  else presses.foldl (fun t p => endEvent (press p t)) s1

/-- A full scan (R89, R93). -/
def fullScan (levels : BitVec 48) (s : State) : State :=
  if s.keys.firstScan then { s with keys := firstScan levels s.keys }
  else
    let ts := testAll s.params.debounce (s.keys.scanTime + 2) levels s.keys.keys
    handlePresses (acceptedAt true ts) { s with keys := scanReleases ts s.keys }

/-! ## The wake scan (R98, R166) -/

/-- A position is watched: its code is in the wake set (R98). -/
def watched (k : KeyScanner) (pos : Nat) : Bool := inSet k.wakeSet (codeAt k pos)

/-- The tests of a slow scan: the watched positions alone (R98). -/
def slowTests (wait now : Nat) (levels : BitVec 48) (k : KeyScanner) : Vector Tested 48 :=
  Vector.ofFn fun i =>
    if watched k i.val then debounce wait now (levels.getLsbD i.val) k.keys[i]
    else { pos := k.keys[i], accepted := false }

/-- A slow scan in SLEEP (R98, R166): an accepted press wakes the part with reason KEY; the lowest
position is recorded. -/
def slowScan (levels : BitVec 48) (s : State) : State :=
  let now := s.keys.scanTime + 32
  let ts := slowTests s.params.debounce now levels s.keys
  let s1 := { s with keys := { s.keys with keys := Vector.ofFn fun i => (ts[i]).pos,
                                           scanTime := now } }
  match acceptedAt true ts with
  | [] => s1
  | pos :: _ =>
    { s1 with power := { s1.power with settle := true, wakeReason := .key
                                       wakeKey := some (codeAt s.keys pos, pos) } }

end Sys2Proof.Machine
end

