-- ==== Sys2Proof/Machine/LinkCommands.lean ====
section
/-! DEFINITION. The commands of the supply, RESETn and the link's two wires. -/

namespace Sys2Proof.Machine

open Sys2Proof

/-- The outcome of a command. -/
abbrev Outcome := Host.Outcome State Fault Refusal

/-- POWER_ON_RESET (R161, R181). -/
def execPowerOnReset (rate : LinkRate) (jack : Jack) (s : State) : Outcome :=
  .next (hardReset rate jack .power s)

/-- PIN_RESET: as a power-on reset, with the cause PIN (R161, R181). -/
def execPinReset (rate : LinkRate) (jack : Jack) (s : State) : Outcome :=
  .next (hardReset rate jack .pin s)

/-- RX_BYTE (R171, R173, R165, R167, R175). -/
def execRxByte (b : Byte) (s : State) : Outcome := .next (receive b s)

/-- RX_TIMEOUT: an unfinished frame is discarded (R172, R174). -/
def execRxTimeout (s : State) : Outcome :=
  .next (match s.link.rx with
    | .frame bs =>
      if receives s.power then linkFault .timeout (kindArrived (.frame bs)) .hunt s else s
    | _ => s)

/-- OVERFLOW_DISCARD_TIMEOUT: the discard that waits for silence ends, with no notice (R173). -/
def execOverflowDiscardTimeout (s : State) : Outcome :=
  .next (if s.link.rx = .discardSilence then { s with link.rx := .hunt } else s)

/-- WAKE_FRAME_TIMEOUT: the discard of the waking frame stops, with no notice (R167). -/
def execWakeFrameTimeout (s : State) : Outcome :=
  .next (if s.link.rx.wakeFrame then { s with link.rx := .hunt } else s)

/-- TX_FRAME_DONE (R177, R175, R162, R187, R188). -/
def execTxFrameDone (s : State) : Outcome := .next (frameSent s)

/-- UNKNOWN_KIND: a frame whose kind names no request is answered BAD_KIND (R176). -/
def execUnknownKind (kind tag : Byte) (payload : List Byte) (s : State) : Outcome :=
  .next (deliverFrame { kind := kind, tag := tag, payload := payload } s)

end Sys2Proof.Machine
end

