-- ==== Sys2Proof/Machine/RequestCommands.lean ====
section
/-! DEFINITION. The commands that are requests of the host: each frame is sent whole to the LINK
PORT, which takes it by R175, and the block that owns it acts on it by the rule named. -/

namespace Sys2Proof.Machine

open Sys2Proof

/-- HELLO (R182). -/
def execHello (tag : Byte) (s : State) : Outcome :=
  .next (deliver tag .hello s)

/-- STATUS (R183). -/
def execStatus (tag : Byte) (flags : Byte) (s : State) : Outcome :=
  .next (deliver tag (.status flags) s)

/-- RESET with option SOFT (R187). -/
def execResetSoft (tag : Byte) (s : State) : Outcome :=
  .next (deliver tag .resetSoft s)

/-- RESET with option FULL (R188). -/
def execResetFull (tag : Byte) (s : State) : Outcome :=
  .next (deliver tag .resetFull s)

/-- SET (R185). -/
def execSet (tag : Byte) (id : Byte) (value : Word16) (s : State) : Outcome :=
  .next (deliver tag (.set id value) s)

/-- GET (R186). -/
def execGet (tag : Byte) (id : Byte) (s : State) : Outcome :=
  .next (deliver tag (.get id) s)

/-- NOTICE_MASK (R180). -/
def execNoticeMask (tag : Byte) (set : Word16) (s : State) : Outcome :=
  .next (deliver tag (.noticeMask set) s)

/-- WORD_PUT (R9, R12). -/
def execWordPut (tag : Byte) (w : WordWrite) (s : State) : Outcome :=
  .next (deliver tag (.wordPut w) s)

/-- WORD_PUT_IF (R16, R17). -/
def execWordPutIf (tag : Byte) (w : WordWrite) (s : State) : Outcome :=
  .next (deliver tag (.wordPutIf w) s)

/-- WORD_GET (R13). -/
def execWordGet (tag : Byte) (index flags : Byte) (s : State) : Outcome :=
  .next (deliver tag (.wordGet index flags) s)

/-- WORD_DROP (R18). -/
def execWordDrop (tag : Byte) (index : Byte) (s : State) : Outcome :=
  .next (deliver tag (.wordDrop index) s)

/-- QUEUE_LOAD by list (R66). -/
def execQueueLoadList (tag : Byte) (indices : List Byte) (s : State) : Outcome :=
  .next (deliver tag (.queueLoadList indices) s)

/-- QUEUE_LOAD by group bitmap (R66). -/
def execQueueLoadGroups (tag : Byte) (groups : Byte) (s : State) : Outcome :=
  .next (deliver tag (.queueLoadGroups groups) s)

/-- QUEUE_ADD (R67). -/
def execQueueAdd (tag : Byte) (index : Byte) (s : State) : Outcome :=
  .next (deliver tag (.queueAdd index) s)

/-- QUEUE_GET (R68). -/
def execQueueGet (tag : Byte) (s : State) : Outcome :=
  .next (deliver tag .queueGet s)

/-- START (R58). -/
def execStart (tag : Byte) (s : State) : Outcome :=
  .next (deliver tag .start s)

/-- FREE_START (R59). -/
def execFreeStart (tag : Byte) (s : State) : Outcome :=
  .next (deliver tag .freeStart s)

/-- PAUSE (R79). -/
def execPause (tag : Byte) (s : State) : Outcome :=
  .next (deliver tag .pause s)

/-- RESUME (R82). -/
def execResume (tag : Byte) (s : State) : Outcome :=
  .next (deliver tag .resume s)

/-- STOP (R60). -/
def execStop (tag : Byte) (s : State) : Outcome :=
  .next (deliver tag .stop s)

/-- LESSON_LIMIT (R87). -/
def execLessonLimit (tag : Byte) (minutes : Word16) (s : State) : Outcome :=
  .next (deliver tag (.lessonLimit minutes) s)

/-- JUDGEMENT_GET (R34). -/
def execJudgementGet (tag : Byte) (s : State) : Outcome :=
  .next (deliver tag .judgementGet s)

/-- SLIP_GET (R36). -/
def execSlipGet (tag : Byte) (s : State) : Outcome :=
  .next (deliver tag .slipGet s)

/-- KEYMAP (R91). -/
def execKeymap (tag : Byte) (codes : List Byte) (s : State) : Outcome :=
  .next (deliver tag (.keymap codes) s)

/-- KEYSETS (R99). -/
def execKeysets (tag : Byte) (accept wake : BitVec 48) (s : State) : Outcome :=
  .next (deliver tag (.keysets accept wake) s)

/-- SAY (R135). -/
def execSay (tag : Byte) (gap : Byte) (clips : List Word16) (s : State) : Outcome :=
  .next (deliver tag (.say gap clips) s)

/-- HUSH (R136). -/
def execHush (tag : Byte) (s : State) : Outcome :=
  .next (deliver tag .hush s)

/-- RELOAD_CLIPS (R125). -/
def execReloadClips (tag : Byte) (s : State) : Outcome :=
  .next (deliver tag .reloadClips s)

/-- GUARD_CLEAR (R160). -/
def execGuardClear (tag : Byte) (s : State) : Outcome :=
  .next (deliver tag .guardClear s)

/-- AUDIO_GET (R151). -/
def execAudioGet (tag : Byte) (flags : Byte) (s : State) : Outcome :=
  .next (deliver tag (.audioGet flags) s)

/-- SLEEP (R162). -/
def execSleep (tag : Byte) (s : State) : Outcome :=
  .next (deliver tag .sleep s)

end Sys2Proof.Machine
end

