-- ==== Sys2Proof/Machine/EventCommands.lean ====
section
/-! DEFINITION. The commands that are events of the part's own activities and pins. An event offered
where the state rules it out does not occur: the state stays (DESIGN CHOICE,
notes/assumptions/5.md). -/

namespace Sys2Proof.Machine

open Sys2Proof

/-- The end of a directory read that met these bytes of the flash: state, count and roles, and the
CLIPS notice (R124). -/
def endRead (bytes : List Byte) (s : State) : State :=
  match testDirectory bytes with
  | .ok count =>
    finish ((State.begin { s with flash := bytes, clips :=
      { dir := .ok, count := count, roles := readRoles bytes, spi := none } }).raise
      (.clips .ok count none))
  | .fails cause =>
    finish ((State.begin { s with flash := bytes, clips :=
      { dir := .bad, count := 0, roles := Vector.replicate 70 0, spi := none } }).raise
      (.clips .bad 0 (some cause)))

/-- DIRECTORY_READ_DONE (R124, R191). -/
def execDirectoryReadDone (bytes : List Byte) (s : State) : Outcome :=
  .next (if s.clips.dir = .reading then endRead bytes s else s)

/-- KEY_SCAN (R89, R93 to R96): in ACTIVE alone. -/
def execKeyScan (levels : BitVec 48) (s : State) : Outcome :=
  .next (if s.power.power = .active then transmit (fullScan levels s) else s)

/-- SLOW_KEY_SCAN (R98, R166): in SLEEP without the settle mark. -/
def execSlowKeyScan (levels : BitVec 48) (s : State) : Outcome :=
  .next (if s.power.power = .sleep ∧ s.power.settle = false then slowScan levels s else s)

/-- The part after the settle, before the blocks act: ACTIVE, full scanning to resume, and a reset
whose reply left during the sleep applied (R163, R168). -/
def settleEnds (s : State) : State :=
  let s1 := { s with power := { s.power with power := .active, settle := false }
                     keys.firstScan := true }
  match s1.link.resetPending, s1.link.reply with
  | some k, none => applyReset k s1
  | _, _ => s1

/-- WAKE_SETTLE_END (R168 to R170). -/
def execWakeSettleEnd (jack : Jack) (s : State) : Outcome :=
  .next (if s.power.power = .sleep ∧ s.power.settle then
    transmit (takeWaiting (endEvent (wakeBlocks jack (settleEnds s))))
  else s)

/-- JACK_CHANGE (R152): not watched in SLEEP. -/
def execJackChange (jack : Jack) (s : State) : Outcome :=
  .next (if s.power.power = .active ∧ jack ≠ s.out.jack then
    conclude (State.begin { s with out := requestProbe { s.out with jack := jack } })
  else s)

/-- The result of a probe reaches the drill (R155). -/
def probeResult (stale : Bool) (l : Load) (w : Work) : Work :=
  match w.st.drill.phase with
  | .opening =>
    if stale then w
    else if l = .openLoad then pauseDrill .audio w
    else toPresent false w
  | _ => if l = .openLoad then audioFault w else w

/-- The probe after its pulse: RUNNING again with the one-more mark, else IDLE with the player out
of HELD (R154 step 4, R132). -/
def probeEnds (w : Work) : Work :=
  if w.st.out.oneMore then { w with st.out := startProbe { w.st.out with oneMore := false } }
  else { w with st := { w.st with
    out.probe := .idle
    speech.player := if w.st.speech.player = .held then .idle else w.st.speech.player } }

/-- The load kind takes the result; r is 0 when it differs from the one before (R154 step 1). -/
def setLoad (l : Load) (o : OutputStage) : OutputStage :=
  { o with load := l, trimDown := if l = o.load then o.trimDown else 0 }

/-- LOAD_PROBE_DONE (R154, R155). What the drill does with the result, the first two entries of a
presentation included (R69), is done before the player leaves HELD: step 3 of R154, then step 4. -/
def execLoadProbeDone (milliohms : Nat) (s : State) : Outcome :=
  .next (if s.out.probe = .running then
    let l := loadOf milliohms
    let w := (State.begin { s with out := setLoad l s.out }).raise (.load s.out.load l s.out.jack)
    conclude (probeEnds (runToRest (probeResult s.out.stale l w)))
  else s)

/-- The guard trips (R159). -/
def guardTrips (clip : Nat) (s : State) : State :=
  let w := (State.begin { s with out.tripped := true }).raise (.guard true s.out.trimDown clip)
  conclude (audioFault (fullFlush w))

/-- A surge reduction (R158). -/
def surgeReduces (clip : Nat) (s : State) : State :=
  let o := raiseTrim 3 { s.out with surges := 0 }
  finish ((State.begin { s with out := o }).raise (.guard false o.trimDown clip))

/-- A surge event counted while an entry plays audibly (R157). -/
def countSurge (clip : Nat) (s : State) : State :=
  let s1 := { s with out.surges := s.out.surges + 1 }
  if s1.out.surges < s.params.surgeLimit then s1
  else if s.params.surgeAction = 1 ∧ s.out.trimDown < 8 then surgeReduces clip s1
  else guardTrips clip s1

/-- SURGE_EVENT (R157 to R159). -/
def execSurgeEvent (s : State) : Outcome :=
  .next (match s.speech.player with
    | .play p =>
      if s.out.tripped = false ∧ 1 ≤ effectiveStep s.params s.out then countSurge p.clip s else s
    | _ => s)

/-- GAP_END: the player enters PLAY with the head entry (R129 to R131, R135). -/
def execGapEnd (s : State) : Outcome :=
  .next (match s.speech.player with
    | .gap _ => conclude (enterPlay s.begin)
    | _ => s)

/-- A sample of the playing clip is scaled and output (R147, R149). -/
def playSample (p : Playing) (miso : SampleBytes) (s : State) : State :=
  let e := effectiveStep s.params s.out
  let x := sampleValue p.coding miso
  { s with
    speech.player := .play { p with handed := p.handed + 1 }
    out := { s.out with aout := some (outputSample e p.trim x)
                        clipped := s.out.clipped || saturates e p.trim x } }

/-- SAMPLE_OUT (R130, R147, R191): while the clip has samples left. -/
def execSampleOut (miso : SampleBytes) (s : State) : Outcome :=
  .next (match s.speech.player with
    | .play p => if p.handed < p.count then playSample p miso s else s
    | _ => s)

/-- ENTRY_END: the playing entry ends when its sample count has been handed over, and not before
(R129, R130). -/
def execEntryEnd (s : State) : Outcome :=
  .next (match s.speech.player with
    | .play p => if p.count ≤ p.handed then conclude (leaveHead .ended s.begin) else s
    | _ => s)

/-- LESSON_SECOND (R85, R86). -/
def execLessonSecond (s : State) : Outcome :=
  .next (if lessonCounts s then
    let n := min 65535 (s.lesson.seconds + 1)
    { s with lesson := { seconds := n, part := s.lesson.part - 1000
                         timeUp := s.lesson.timeUp || limitReached s.params n } }
  else s)

/-- The notice of an attention stage (R118). -/
def attentionNotice (stage : Nat) (d : Drill) : Notice :=
  .attention stage d.word ((d.current.map (·.tryNo)).getD 0)

/-- The word clip of the current word as an entry of a class. -/
def placeWordClip (cls : EntryClass) (w : Work) : Work :=
  match currentRecord w.st with
  | some r => place (clipEntry r.wordClip cls) w
  | none => w

/-- Attention stage 1 or 2: the nudge and the word clip, then the ATTENTION notice (R116 to
R118). -/
def nudge (stage : Nat) (s : State) : Work :=
  let w := State.begin { s with attn.stage := stage }
  let w1 := placeWordClip .nudge (placeRole (if stage = 1 then .nudge1 else .nudge2) .nudge w)
  w1.raise (attentionNotice stage w1.st.drill)

/-- ATTENTION_NUDGE (R116, R117): stage 1 from 0, or 2 from 1, its threshold reached; an engagement
taken first has set the elapsed time to 0, and the stage is not reached. -/
def execAttentionNudge (s : State) : Outcome :=
  .next (if stageReached s ∧ s.attn.stage ≤ 1 then conclude (nudge (s.attn.stage + 1) s) else s)

/-- Attention stage 3: the timer stops, the notice, the pause with reason ATTENTION (R119). -/
def attentionStage3 (s : State) : Work :=
  let w := State.begin { s with attn := { s.attn with stage := 3, running := false } }
  pauseDrill .attention (w.raise (attentionNotice 3 w.st.drill))

/-- ATTENTION_PAUSE (R116, R119, R163): from stage 2, its threshold reached; with ATTN_SLEEP 1 the
part enters SLEEP in the same event, the player having taken what waits (DEDUCED,
notes/assumptions/19.md). -/
def execAttentionPause (s : State) : Outcome :=
  .next (if stageReached s ∧ s.attn.stage = 2 then
    let w := runToRest (attentionStage3 s)
    if s.params.attnSleep = 1 then finish (enterSleep w) else finish w
  else s)

end Sys2Proof.Machine
end

