-- ==== Sys2Proof/Machine/Tick.lean ====
section
/-! DEFINITION. One tick of the 1 ms time base, which a step on an empty queue is
(notes/assumptions/3.md): the timers advance, and the commands that fall due wait their turn. -/

namespace Sys2Proof.Machine

open Sys2Proof

/-- The ATTENTION TIMER and the LESSON TIMER advance by 1 ms while they run (R85, R112). -/
def tickTimers (s : State) : State :=
  { s with attn.elapsed := if attentionRuns s then s.attn.elapsed + 1 else s.attn.elapsed
           lesson.part := if lessonCounts s then s.lesson.part + 1 else s.lesson.part }

/-- The gap timer of an entry in GAP advances by 1 ms (R129). -/
def tickGap (p : Player) : Player :=
  match p with
  | .gap ms => .gap (ms + 1)
  | p => p

/-- The time since the last byte advances by 1 ms while a frame or a discard is in progress (R172,
R173, R167). -/
def tickSilence (l : LinkPort) : LinkPort :=
  if l.rx = .hunt then l else { l with silence := l.silence + 1 }

/-- The receiver's command due: 10 ms have passed without a byte (R172, R173, R167). -/
def receiverDue (s : State) : List Instr :=
  if s.link.silence < 10 then [] else
    match s.link.rx with
    | .frame _ => if receives s.power then [.rxTimeout] else []
    | .discardSilence => [.overflowDiscardTimeout]
    | .wakeLength => [.wakeFrameTimeout]
    | .wakeDiscard _ => [.wakeFrameTimeout]
    | _ => []

/-- GAP_END is due: the gap timer has reached the head entry's gap (R129). -/
def gapDue (s : State) : List Instr :=
  match s.speech.player, s.speech.queue with
  | .gap ms, e :: _ => if e.gap ≤ ms then [.gapEnd] else []
  | _, _ => []

/-- LESSON_SECOND is due (R85). -/
def lessonDue (s : State) : List Instr :=
  if lessonCounts s ∧ 1000 ≤ s.lesson.part then [.lessonSecond] else []

/-- The attention stage that is due: the elapsed time has reached the threshold of the next one
(R116). -/
def attentionDue (s : State) : List Instr :=
  if s.attn.stage < 3 ∧ stageReached s then
    [if s.attn.stage = 2 then .attentionPause else .attentionNudge]
  else []

/-- One tick of the 1 ms time base. Commands that fall due at the same tick wait in this order: the
lesson second, the receiver's, the end of the gap, the attention stage. The lesson second is first,
so that nothing else of the tick can leave the phase in which its last millisecond was counted
(R85); the spec gives no other order (DESIGN CHOICE, notes/assumptions/3.md). -/
def tick (s : State) : State :=
  let t := tickTimers
    { s with speech.player := tickGap s.speech.player, link := tickSilence s.link }
  { t with pending := t.pending ++ (lessonDue t ++ receiverDue t ++ gapDue t ++ attentionDue t) }

end Sys2Proof.Machine
end

