-- ==== Sys2Proof/Machine/Dispatch.lean ====
section
/-! DEFINITION. The meaning of each command: one arm per constructor, one direct call each. -/

namespace Sys2Proof.Machine

open Sys2Proof

def exec (i : Instr) (s : State) : Host.Outcome State Fault Refusal :=
  match i with
  | .powerOnReset rate jack => Sys2Proof.Machine.execPowerOnReset rate jack s
  | .pinReset rate jack => Sys2Proof.Machine.execPinReset rate jack s
  | .rxByte b => Sys2Proof.Machine.execRxByte b s
  | .rxTimeout => Sys2Proof.Machine.execRxTimeout s
  | .overflowDiscardTimeout => Sys2Proof.Machine.execOverflowDiscardTimeout s
  | .wakeFrameTimeout => Sys2Proof.Machine.execWakeFrameTimeout s
  | .txFrameDone => Sys2Proof.Machine.execTxFrameDone s
  | .hello tag => Sys2Proof.Machine.execHello tag s
  | .status tag flags => Sys2Proof.Machine.execStatus tag flags s
  | .resetSoft tag => Sys2Proof.Machine.execResetSoft tag s
  | .resetFull tag => Sys2Proof.Machine.execResetFull tag s
  | .set tag id value => Sys2Proof.Machine.execSet tag id value s
  | .get tag id => Sys2Proof.Machine.execGet tag id s
  | .noticeMask tag set => Sys2Proof.Machine.execNoticeMask tag set s
  | .unknownKind kind tag payload => Sys2Proof.Machine.execUnknownKind kind tag payload s
  | .wordPut tag w => Sys2Proof.Machine.execWordPut tag w s
  | .wordPutIf tag w => Sys2Proof.Machine.execWordPutIf tag w s
  | .wordGet tag index flags => Sys2Proof.Machine.execWordGet tag index flags s
  | .wordDrop tag index => Sys2Proof.Machine.execWordDrop tag index s
  | .queueLoadList tag indices => Sys2Proof.Machine.execQueueLoadList tag indices s
  | .queueLoadGroups tag groups => Sys2Proof.Machine.execQueueLoadGroups tag groups s
  | .queueAdd tag index => Sys2Proof.Machine.execQueueAdd tag index s
  | .queueGet tag => Sys2Proof.Machine.execQueueGet tag s
  | .start tag => Sys2Proof.Machine.execStart tag s
  | .freeStart tag => Sys2Proof.Machine.execFreeStart tag s
  | .pause tag => Sys2Proof.Machine.execPause tag s
  | .resume tag => Sys2Proof.Machine.execResume tag s
  | .stop tag => Sys2Proof.Machine.execStop tag s
  | .lessonLimit tag minutes => Sys2Proof.Machine.execLessonLimit tag minutes s
  | .judgementGet tag => Sys2Proof.Machine.execJudgementGet tag s
  | .slipGet tag => Sys2Proof.Machine.execSlipGet tag s
  | .keymap tag codes => Sys2Proof.Machine.execKeymap tag codes s
  | .keysets tag accept wake => Sys2Proof.Machine.execKeysets tag accept wake s
  | .say tag gap clips => Sys2Proof.Machine.execSay tag gap clips s
  | .hush tag => Sys2Proof.Machine.execHush tag s
  | .reloadClips tag => Sys2Proof.Machine.execReloadClips tag s
  | .guardClear tag => Sys2Proof.Machine.execGuardClear tag s
  | .audioGet tag flags => Sys2Proof.Machine.execAudioGet tag flags s
  | .sleep tag => Sys2Proof.Machine.execSleep tag s
  | .directoryReadDone bytes => Sys2Proof.Machine.execDirectoryReadDone bytes s
  | .keyScan levels => Sys2Proof.Machine.execKeyScan levels s
  | .slowKeyScan levels => Sys2Proof.Machine.execSlowKeyScan levels s
  | .wakeSettleEnd jack => Sys2Proof.Machine.execWakeSettleEnd jack s
  | .jackChange jack => Sys2Proof.Machine.execJackChange jack s
  | .loadProbeDone milliohms => Sys2Proof.Machine.execLoadProbeDone milliohms s
  | .surgeEvent => Sys2Proof.Machine.execSurgeEvent s
  | .gapEnd => Sys2Proof.Machine.execGapEnd s
  | .sampleOut miso => Sys2Proof.Machine.execSampleOut miso s
  | .entryEnd => Sys2Proof.Machine.execEntryEnd s
  | .lessonSecond => Sys2Proof.Machine.execLessonSecond s
  | .attentionNudge => Sys2Proof.Machine.execAttentionNudge s
  | .attentionPause => Sys2Proof.Machine.execAttentionPause s

end Sys2Proof.Machine
end

