-- ==== Sys2Proof/Machine/Step.lean ====
section
/-! DEFINITION. One step: the command at the front of the queue, or a tick of the time base. -/

namespace Sys2Proof.Machine

open Sys2Proof

/-- One step: the command at the front of the queue is taken and carried out with the rest waiting;
on an empty queue one tick of the 1 ms time base passes. -/
def step (s : State) : Host.Outcome State Fault Refusal :=
  match s.pending with
  | [] => .next (tick s)
  | c :: cs => exec c { s with pending := cs }

/-- The state with the command a word spells put at the front of its queue; unchanged where the word
spells none. -/
def State.withFetchWord (s : State) (nbits w : Nat) : State :=
  match decodeTableWord nbits w with
  | some c => { s with pending := c :: s.pending }
  | none => s

/-- The state with the clip flash rewritten by the world (7.11): the part itself is untouched, and
the next read at play meets the new content (R130, notes/assumptions/11.md). -/
def State.withFlash (s : State) (content : List Byte) : State := { s with flash := content }

end Sys2Proof.Machine
end

