-- ==== Sys2Proof/Safety.lean ====
section
/-! DEFINITION. What the statements speak of: the bounds the part keeps, the well-formed records and
lesson, the part asleep, and the answer to a request. -/

namespace Sys2Proof.Machine

open Sys2Proof

/-! ## Capacities (R100, R105, R128, R145, R150, R173, R178) -/

/-- Every buffer holds no more than its places, and r and the clip counter stand within their
ranges. -/
structure Capacities (s : State) : Prop where
  receive   : s.link.held ≤ Config.receiveBytes
  report    : s.link.report.length ≤ Config.reportPlaces
  fifo      : s.keys.fifo.length ≤ Config.fifoPlaces
  utterance : s.speech.queue.length ≤ Config.utterancePlaces
  attempt   : s.drill.attempt.length ≤ Config.attemptPlaces
  trimDown  : s.out.trimDown ≤ 8
  clipCount : s.out.clipCount ≤ 127

/-! ## Parameters (R184) -/

/-- Every parameter stands within its range. -/
def ParamsOk (p : Params) : Prop :=
  ∀ x : Param, x.range.1 ≤ x.read p ∧ x.read p ≤ x.range.2

/-! ## Word records (R2, R4, R5, R49) -/

/-- A word record whose fields stand within R2's values and agree as R4, R5 and R49 say. -/
structure RecordOk (r : WordRecord) : Prop where
  spelling    : 1 ≤ r.spelling.length ∧ r.spelling.length ≤ 12
  wordClip    : 1 ≤ r.wordClip ∧ r.wordClip ≤ 1023
  sentClip    : ∀ c, r.sentClip = some c → 1 ≤ c ∧ c ≤ 1023
  group       : r.group ≤ 7
  strain      : r.strain ≤ 256
  benched     : r.standing = .benched ↔ r.strain = 256
  mastered    : r.standing = .mastered ↔ r.latch = true
  benchLatch  : r.strain = 256 → r.latch = false
  streak      : r.streak ≤ 7
  credit      : r.credit ≤ 64
  creditBench : r.strain ≠ 256 → r.credit = 0
  counts      : r.right ≤ r.judged ∧ r.judged ≤ 65535

/-- Every present record is well-formed. -/
def BankOk (b : WordBank) : Prop := ∀ (i : Nat) (r : WordRecord), b.slot i = some r → RecordOk r

/-! ## The lesson (R19, R57, R61, R63, R68, R112) -/

/-- The current word fits the phase: present and enabled, and not BENCHED or MASTERED but where the
judgement just made has made it so (R65, R74, R76). -/
def CurrentFits (ph : Phase) (p : Params) (b : WordBank) (c : Current) : Prop :=
  ∃ r, b.slot c.word = some r ∧ r.enabled = true ∧ 1 ≤ c.tryNo ∧ c.tryNo ≤ p.triesMax ∧
    c.hints < r.spelling.length ∧
    (ph = .feedback → r.standing ≠ .benched ∧ c.lastVerdict ≠ none ∧
      (c.lastVerdict = some .wrong → r.standing ≠ .mastered ∧ c.tryNo < p.triesMax)) ∧
    (ph ≠ .feedback ∧ ph ≠ .spellout → r.standing ≠ .benched ∧ r.standing ≠ .mastered)

/-- What holds of the lesson in every state that a run reaches. -/
structure LessonOk (s : State) : Prop where
  params      : ParamsOk s.params
  bank        : BankOk s.bank
  /-- R68: the queue and the current word take at most 32 places. -/
  places      : s.drill.places ≤ Config.queuePlaces
  /-- R68: no word stands twice among the queue and the current word. -/
  distinct    : (s.drill.queue ++ s.drill.word.toList).Nodup
  /-- R19: every queued word is eligible. -/
  eligible    : ∀ i ∈ s.drill.queue, eligible (s.bank.slot i) = true
  /-- The phase is none exactly outside DRILL mode (R61). -/
  phase       : s.drill.mode = .drill ↔ s.drill.phase ≠ .noPhase
  /-- A pause reason stands in PAUSED alone (R61). -/
  reason      : s.drill.reason = .noReason ↔ s.drill.phase ≠ .paused
  /-- No word is current outside a lesson, or in FINISHED (R57, R83). -/
  noCurrent   : s.drill.phase = .noPhase ∨ s.drill.phase = .finished → s.drill.current = none
  /-- A word is current while one is asked (R63). -/
  current     : s.drill.phase = .present ∨ s.drill.phase = .listen ∨ s.drill.phase = .feedback ∨
                  s.drill.phase = .spellout → s.drill.current.isSome = true
  fits        : ∀ c, s.drill.current = some c → CurrentFits s.drill.phase s.params s.bank c
  /-- The ATTENTION TIMER runs in LISTEN alone (R112). -/
  attention   : s.attn.running = true → s.drill.phase = .listen

/-! ## Host speech and the drill's scripts (R69, R135) -/

/-- Host speech stands apart from the scripts of the drill: no entry of a script, placed or not yet
placed, is a SAID entry. -/
structure HostSpeechApart (s : State) : Prop where
  script : ∀ i ∈ s.drill.script, i.cls.isSaid = false
  queue  : ∀ e ∈ s.speech.queue, e.scripted = true → e.cls.isSaid = false

/-! ## The part asleep (R164, R165) -/

/-- The part in SLEEP, as its entry leaves it; the settle mark may be set. -/
structure Asleep (s : State) : Prop where
  power   : s.power.power = .sleep
  pending : s.power.sleepPending = false
  queue   : s.speech.queue = []
  player  : s.speech.player = .idle
  probe   : s.out.probe = .idle
  reading : s.clips.dir ≠ .reading

/-- A command that can end a sleep: a reset, or the end of the wake settle. -/
def endsSleep : Instr → Bool
  | .powerOnReset _ _ | .pinReset _ _ | .wakeSettleEnd _ => true
  | _ => false

/-! ## Answers -/

/-- The state as a request finds it whose last byte has just come (R172). -/
def heard (s : State) : State := { s with link.silence := 0 }

/-- The state after a request of this kind and tag has been acted on, leaving `t`, and its reply
placed; an idle transmitter begins it (R175, R177). -/
def answered (r : Request) (tag : Byte) (payload : List Byte) (t : State) : State :=
  transmit (placeReply (requestKind r) tag payload t)

/-- A request answered with a result code alone, and nothing else changed (R176, R190). -/
def refusedWith (r : Request) (tag : Byte) (res : Result) (s : State) : State :=
  answered r tag [res.code] (heard s)

/-- A request answered OK with no more. -/
def answeredOk (r : Request) (tag : Byte) (t : State) : State :=
  answered r tag [Result.ok.code] t

/-! ## Writes (R3, R11, R12) -/

/-- What a carried-out WORD_PUT or WORD_PUT_IF leaves in the record, field by field: `o` is the
record before, or that of R3 where the slot was empty. -/
structure Written (p : Params) (w : WordWrite) (letters : List Letter) (o r : WordRecord) : Prop where
  spelling : r.spelling = letters
  wordClip : r.wordClip = w.wordClip.toNat
  sentClip : r.sentClip = if w.sentClip.toNat = 0 then none else some w.sentClip.toNat
  group    : r.group = w.group.toNat
  enabled  : r.enabled = w.flags.getLsbD 0
  strain   : r.strain = if w.flags.getLsbD 1 then min 256 w.strain.toNat else o.strain
  credit   : r.credit = if w.flags.getLsbD 1 then
               (if 256 ≤ w.strain.toNat then p.returnCredit else 0) else o.credit
  latch    : r.latch = (o.latch && !w.flags.getLsbD 1 && !w.flags.getLsbD 2)
  streak   : r.streak = if w.flags.getLsbD 1 || w.flags.getLsbD 2 then 0 else o.streak
  judged   : r.judged = if w.flags.getLsbD 2 then 0 else o.judged
  right    : r.right = if w.flags.getLsbD 2 then 0 else o.right
  standing : r.standing = if w.flags.getLsbD 1 || w.flags.getLsbD 2 then
               deriveStanding p.warnLimit r else o.standing

/-- The record R3 starts an empty slot with. -/
def freshRecord : WordRecord :=
  { spelling := [], wordClip := 0, sentClip := none, group := 0, enabled := false, strain := 0,
    standing := .fresh, latch := false, streak := 0, credit := 0, judged := 0, right := 0 }

/-- The reply payload of a carried-out write: OK, or CLAMPED with 256 (R11, 11.5). -/
def writeAnswer (w : WordWrite) : List Byte :=
  if w.flags.getLsbD 1 && decide (256 < w.strain.toNat) then [0x01#8, 0x00#8, 0x01#8] else [0x00#8]

/-! ## Settling (R65) -/

/-- The DRILL QUEUE after the current word's outcome is settled: the word inserted with exactly G
words ahead, or at the tail where fewer stand there, unless it is MASTERED or BENCHED (R65). -/
def settledQueue (s : State) : List Nat :=
  match s.drill.current with
  | none => s.drill.queue
  | some c =>
    match s.bank.slot c.word with
    | none => s.drill.queue
    | some r =>
      if r.standing = .mastered ∨ r.standing = .benched then s.drill.queue
      else
        let g := if c.lastVerdict = some .right then s.params.gapRight else s.params.gapWrong
        s.drill.queue.take g ++ [c.word] ++ s.drill.queue.drop g

/-! ## Speech that goes on (R69, R70, R127, R129) -/

/-- The SPEECH PLAYER between entries with these entries waiting: HELD by a requested probe, IDLE
with nothing to take, else in the gap or the clip of the head entry; `none` where that entry would
pass with no length or be refused its turn (R129 to R132, R135). -/
def nextPlayer (s : State) (probe : Probe) (q : List Entry) : Option Player :=
  if probe = .requested then some .held
  else match q with
    | [] => some .idle
    | e :: _ => if e.gap ≠ 0 then some (.gap 0) else (playable s e.clip).map .play

/-- The SPEECH PLAYER has nothing to do at once: no entry to take, no gap of 0 to end, no probe to
let run. -/
def playerRests (s : State) : Bool := !probeDue s && !takeDue s && !playDue s

/-- Among these entries stands one of the class that the phase waits on, where it waits on any
(R69). -/
def stillSpeaks (ph : Phase) (q : List Entry) : Bool :=
  match ph with
  | .present => q.any fun e => decide (e.cls = .prompt)
  | .feedback | .spellout => q.any fun e => decide (e.cls = .feedback)
  | _ => true

/-- A CUE entry for a role (R72, R106, R107). -/
def cueEntry (c : ClipStore) (r : Role) : Entry :=
  { clip := roleClip c r, cls := .cue, gap := 0, skippable := false, scripted := false }

/-- The first entry of a presentation: WELCOME_BACK after an attention pause, else the word clip
(R70). -/
def firstPrompt (c : ClipStore) (welcome : Bool) (r : WordRecord) : Entry :=
  { clip := if welcome then roleClip c .welcomeBack else r.wordClip
    cls := .prompt, gap := 0, skippable := false, scripted := true }

/-- The whole presentation of a word, entry by entry (R70): WELCOME_BACK after an attention pause,
the word clip, the sentence clip and the word clip again in the SENTENCE style or for a SHAKY word
that has a sentence, and LISTEN_SPELL with the letter names for a STRUGGLING word; the last two on
try 1 alone. Up to 17 entries (DEDUCED, notes/assumptions/20.md). -/
def presentationItems (p : Params) (tryNo : Nat) (welcome : Bool) (r : WordRecord) :
    List ScriptItem :=
  (if welcome then [roleItem .welcomeBack .prompt 0 false] else []) ++
  [clipItem r.wordClip .prompt 0] ++
  (match r.sentClip with
   | some n =>
     if tryNo = 1 ∧ (p.presentStyle = 1 ∨ r.standing = .shaky) then
       [clipItem n .prompt 0, clipItem r.wordClip .prompt 0]
     else []
   | none => []) ++
  (if tryNo = 1 ∧ r.standing = .struggling then
     roleItem .listenSpell .prompt 0 false ::
       r.spelling.map fun l => roleItem (.letterName l) .prompt 250 false
   else [])

/-- The part presents this current word, with record r: in PRESENT, the first two entries of its
presentation placed behind what stood in the UTTERANCE QUEUE of s and the others its script, the
player as given, and what a presentation leaves of the lesson (R64, R69, R70, R82). -/
structure Presents (s t : State) (c : Current) (r : WordRecord) (welcome : Bool) (player : Player)
    (queue : List Nat) (attempt : List Letter) : Prop where
  phase   : t.drill.mode = .drill ∧ t.drill.phase = .present ∧ t.drill.reason = .noReason
  current : t.drill.current = some { c with
              spelledOut := c.spelledOut || decide (c.tryNo = 1 ∧ r.standing = .struggling) }
  queue   : t.drill.queue = queue
  attempt : t.drill.attempt = attempt
  speech  : t.speech.queue = s.speech.queue ++
              ((presentationItems s.params c.tryNo welcome r).take 2).map (itemEntry s.clips)
  script  : t.drill.script = (presentationItems s.params c.tryNo welcome r).drop 2
  player  : t.speech.player = player
  kept    : t.bank = s.bank ∧ t.judge = s.judge ∧ t.lesson = s.lesson ∧ t.params = s.params

/-- A word as it is taken at a word boundary (R64). -/
def newWord (i : Nat) : Current :=
  { word := i, tryNo := 1, hints := 0, spelledOut := false, lastVerdict := none }

/-- The SPEECH_DONE of a waiting entry that is removed: of a request's last, FLUSHED (R137). -/
def flushedDone (e : Entry) : Option Notice :=
  match e.cls with
  | .said tag true _ => some (.speechDone tag .flushed)
  | _ => none

/-- The SPEECH_DONE of a playing entry that is cut: of a request's last, CUT, or FLUSHED where
something of the request was removed or refused before, this entry included (R135, R137). -/
def cutDone (p : Player) (e : Entry) : List Notice :=
  match e.cls with
  | .said tag true o => [.speechDone tag (if o = .flushed then .flushed else match p with
      | .play q => if q.refused then .flushed else .cut
      | _ => .cut)]
  | _ => []

/-- These notices come first of an event's, and none but SPEECH_DONE follow. -/
def RaisesFirst (s t : State) (ns : List Notice) : Prop :=
  ∃ more : List Notice, (∀ n ∈ more, ∃ tag o, n = .speechDone tag o) ∧
    t.link.report = ((ns ++ more).foldl offer s.link).report

/-- A flush that keeps the entries of these classes, in their order, and raises these notices: a
kept entry that plays goes on playing, and after the cut of another the player takes the next, is
HELD, or is IDLE (R129, R138). -/
structure FlushedTo (s t : State) (keep : EntryClass → Bool) (ns : List Notice) : Prop where
  stays : (∀ e es, s.speech.player.playing = true → s.speech.queue = e :: es →
              keep e.cls = true) →
            t.speech = { s.speech with queue := s.speech.queue.filter fun e => keep e.cls } ∧
            t.link.report = (ns.foldl offer s.link).report
  cut   : ∀ e es player, s.speech.player.playing = true → s.speech.queue = e :: es →
            keep e.cls = false →
            nextPlayer s s.out.probe (es.filter fun x => keep x.cls) = some player →
            t.speech = { queue := es.filter fun x => keep x.cls, player := player } ∧
            t.link.report = (ns.foldl offer s.link).report

/-! ## Slips (R26 to R31) -/

/-- The letter at a position counted from 1. -/
def letterAt (ls : List Letter) (p : Option Nat) : Option Letter :=
  match p with
  | some (i + 1) => ls[i]?
  | _ => none

/-- The swapped test holds at positions i and j (R26). -/
def SwappedAt (target attempt : List Letter) (i j : Nat) : Prop :=
  i < target.length ∧ j < attempt.length ∧
  letterAt target (some i) = letterAt attempt (some (j + 1)) ∧
  letterAt target (some (i + 1)) = letterAt attempt (some j)

/-- The extra test holds at positions i and j (R27). -/
def ExtraAt (target attempt : List Letter) (i j : Nat) : Prop :=
  j < attempt.length ∧ letterAt attempt (some (j + 1)) = letterAt target (some i) ∧
  target.length - i + 1 < attempt.length - j + 1

/-- The missing test holds at positions i and j (R28). -/
def MissingAt (target attempt : List Letter) (i j : Nat) : Prop :=
  i < target.length ∧ letterAt target (some (i + 1)) = letterAt attempt (some j) ∧
  attempt.length - j + 1 < target.length - i + 1

/-- The walk from positions i and j, counted from 1, records these slips: at each step the first of
match, swapped, extra, missing and substitute that applies (R25 to R29), and the leftover letters
where one side has run out (R30). -/
inductive Walk (target attempt : List Letter) : Nat → Nat → List Slip → Prop
  | ends {i j : Nat} : target.length < i ∨ attempt.length < j →
      Walk target attempt i j
        (((List.range' i (target.length + 1 - i)).map fun p =>
            { kind := .missing, targetPos := some p, typedPos := none,
              expected := letterAt target (some p), typed := none }) ++
          (List.range' j (attempt.length + 1 - j)).map fun p =>
            { kind := .extra, targetPos := none, typedPos := some p, expected := none,
              typed := letterAt attempt (some p) })
  | same {i j : Nat} {more : List Slip} : i ≤ target.length → j ≤ attempt.length →
      letterAt target (some i) = letterAt attempt (some j) →
      Walk target attempt (i + 1) (j + 1) more → Walk target attempt i j more
  | swapped {i j : Nat} {more : List Slip} :
      letterAt target (some i) ≠ letterAt attempt (some j) → SwappedAt target attempt i j →
      Walk target attempt (i + 2) (j + 2) more →
      Walk target attempt i j
        ({ kind := .swapped, targetPos := some i, typedPos := some j,
           expected := letterAt target (some i), typed := letterAt attempt (some j) } :: more)
  | extra {i j : Nat} {more : List Slip} : i ≤ target.length →
      letterAt target (some i) ≠ letterAt attempt (some j) → ¬ SwappedAt target attempt i j →
      ExtraAt target attempt i j → Walk target attempt i (j + 1) more →
      Walk target attempt i j
        ({ kind := .extra, targetPos := none, typedPos := some j, expected := none,
           typed := letterAt attempt (some j) } :: more)
  | missing {i j : Nat} {more : List Slip} : j ≤ attempt.length →
      letterAt target (some i) ≠ letterAt attempt (some j) → ¬ SwappedAt target attempt i j →
      ¬ ExtraAt target attempt i j → MissingAt target attempt i j →
      Walk target attempt (i + 1) j more →
      Walk target attempt i j
        ({ kind := .missing, targetPos := some i, typedPos := none,
           expected := letterAt target (some i), typed := none } :: more)
  | substitute {i j : Nat} {more : List Slip} : i ≤ target.length → j ≤ attempt.length →
      letterAt target (some i) ≠ letterAt attempt (some j) → ¬ SwappedAt target attempt i j →
      ¬ ExtraAt target attempt i j → ¬ MissingAt target attempt i j →
      Walk target attempt (i + 1) (j + 1) more →
      Walk target attempt i j
        ({ kind := .substitute, targetPos := some i, typedPos := some j,
           expected := letterAt target (some i), typed := letterAt attempt (some j) } :: more)

/-! ## The link and the resets -/

/-- A payload length that 11.5 gives this kind of request. -/
def lengthGood (kind : Byte) (n : Nat) : Bool :=
  if kind ∈ [0x02#8, 0x03#8, 0x05#8, 0x13#8, 0x21#8, 0x49#8] then n == 1
  else if kind ∈ [0x06#8, 0x12#8, 0x28#8] then n == 2
  else if kind = 0x04#8 then n == 3
  else if kind = 0x10#8 ∨ kind = 0x11#8 then decide (10 ≤ n ∧ n ≤ 22)
  else if kind = 0x20#8 then decide (1 ≤ n ∧ n ≤ 250)
  else if kind = 0x38#8 then n == 48
  else if kind = 0x39#8 then n == 12
  else if kind = 0x40#8 then decide (n % 2 = 1 ∧ n ≤ 17)
  else n == 0

/-- A payload that passes the length test of its kind, with the tests of the fields on which the
length depends: the spelling length of a write, the form of QUEUE_LOAD; and the option of RESET
(R187, R189). -/
def payloadGood (kind : Byte) (payload : List Byte) : Bool :=
  lengthGood kind payload.length &&
  (if kind = 0x10#8 ∨ kind = 0x11#8 then decide (payload[9]? = some (byte (payload.length - 10)))
   else if kind = 0x20#8 then
     decide (payload.head? = some 0x00#8) ||
       decide (payload.head? = some 0x01#8 ∧ payload.length = 2)
   else if kind = 0x03#8 then decide (payload = [0x01#8] ∨ payload = [0x02#8])
   else true)

/-- The payload length 11.6 gives a notice. -/
def noticeLength : Notice → Nat
  | .started .. => 3 | .clips .. => 4 | .load .. => 3 | .guard .. => 4 | .phase .. => 4
  | .verdict .. => 7 | .standing .. => 5 | .attention .. => 3 | .key .. => 2
  | .line letters => 1 + letters.length | .speechDone .. => 2 | .wake .. => 3
  | .linkFault .. => 3 | .overrun => 0

/-- The state after a frame has been discarded with a LINK_FAULT notice. -/
def faulted (cause : LinkCause) (kind : Option Byte) (rx : Receiver) (s : State) :
    State :=
  transmit { s with link := { offer s.link (.linkFault cause kind) with rx := rx } }

/-- What a SOFT reset clears of the lesson, the link and the timers. -/
structure ResetCleared (t : State) : Prop where
  drill       : t.drill = { mode := .setup, phase := .noPhase, reason := .noReason, queue := [],
                            current := none, praise := 0, script := [], attempt := [] }
  fifo        : t.keys.fifo = [] ∧ t.keys.overrun = false
  utterance   : t.speech.queue = []
  report      : t.link.report = [] ∧ t.link.overrun = false
  reservation : t.bank.reservation = none
  judge       : t.judge = { last := none, capture := none }
  lesson      : t.lesson = { seconds := 0, part := 0, timeUp := false }
  attention   : t.attn = { elapsed := 0, stage := 0, lastLetter := none, running := false }
  pending     : t.link.resetPending = none ∧ t.link.reply = none

/-- What SOFT and FULL resets both keep. -/
structure ResetKept (s t : State) : Prop where
  keys  : t.keys.keys = s.keys.keys ∧ t.keys.downCount = s.keys.downCount ∧
            t.keys.lockout = s.keys.lockout
  out   : t.out.load = s.out.load ∧ t.out.jack = s.out.jack ∧ t.out.tripped = s.out.tripped
  power : t.power.wakeReason = s.power.wakeReason ∧ t.power.slept = s.power.slept ∧
            t.power.power = .active
  link  : t.link.rate = s.link.rate ∧ t.link.rx = s.link.rx ∧ t.link.frames = s.link.frames

/-! ## Event commands -/

/-- A command that is no request, reset or wake end and no event of the link: a key scan or an event
of the speech and output chain. -/
def speechOrKeys : Instr → Bool
  | .keyScan _ | .jackChange _ | .loadProbeDone _ | .surgeEvent | .gapEnd | .sampleOut _
  | .entryEnd => true
  | _ => false

end Sys2Proof.Machine
end

