-- ==== Sys2Proof/WellFormed.lean ====
section
/-! DEFINITION. Which commands can occur: a request row must fit in a frame of at most 250 payload
bytes (R171), and UNKNOWN_KIND's kind names no request (R176, 11.2). -/

namespace Sys2Proof

/-- The kinds that name a request (11.2). -/
def requestKinds : List Byte :=
  [0x01#8, 0x02#8, 0x03#8, 0x04#8, 0x05#8, 0x06#8, 0x10#8, 0x11#8, 0x12#8, 0x13#8, 0x20#8, 0x21#8,
   0x22#8, 0x23#8, 0x24#8, 0x25#8, 0x26#8, 0x27#8, 0x28#8, 0x30#8, 0x31#8, 0x38#8, 0x39#8, 0x40#8,
   0x41#8, 0x42#8, 0x48#8, 0x49#8, 0x50#8]

/-- The payload length 11.5 gives a request's fields. -/
def Request.payloadLength : Request → Nat
  | .hello | .queueGet | .start | .freeStart | .pause | .resume | .stop | .judgementGet | .slipGet
  | .hush | .reloadClips | .guardClear | .sleep => 0
  | .status _ | .resetSoft | .resetFull | .get _ | .wordDrop _ | .queueAdd _ | .audioGet _ => 1
  | .noticeMask _ | .wordGet _ _ | .queueLoadGroups _ | .lessonLimit _ => 2
  | .set _ _ => 3
  | .wordPut w | .wordPutIf w => 10 + w.spelling.length
  | .queueLoadList l => 1 + l.length
  | .keymap l => l.length
  | .keysets _ _ => 12
  | .say _ l => 1 + 2 * l.length

/-- A request fits in a frame (R171). -/
def Request.wellFormed (r : Request) : Bool := r.payloadLength ≤ Config.maxPayload

/-- The request a request row's command carries, and its tag. -/
def Instr.request? : Instr → Option (Byte × Request)
  | .hello t => some (t, .hello)
  | .status t f => some (t, .status f)
  | .resetSoft t => some (t, .resetSoft)
  | .resetFull t => some (t, .resetFull)
  | .set t i v => some (t, .set i v)
  | .get t i => some (t, .get i)
  | .noticeMask t m => some (t, .noticeMask m)
  | .wordPut t w => some (t, .wordPut w)
  | .wordPutIf t w => some (t, .wordPutIf w)
  | .wordGet t i f => some (t, .wordGet i f)
  | .wordDrop t i => some (t, .wordDrop i)
  | .queueLoadList t l => some (t, .queueLoadList l)
  | .queueLoadGroups t g => some (t, .queueLoadGroups g)
  | .queueAdd t i => some (t, .queueAdd i)
  | .queueGet t => some (t, .queueGet)
  | .start t => some (t, .start)
  | .freeStart t => some (t, .freeStart)
  | .pause t => some (t, .pause)
  | .resume t => some (t, .resume)
  | .stop t => some (t, .stop)
  | .lessonLimit t m => some (t, .lessonLimit m)
  | .judgementGet t => some (t, .judgementGet)
  | .slipGet t => some (t, .slipGet)
  | .keymap t l => some (t, .keymap l)
  | .keysets t a w => some (t, .keysets a w)
  | .say t g l => some (t, .say g l)
  | .hush t => some (t, .hush)
  | .reloadClips t => some (t, .reloadClips)
  | .guardClear t => some (t, .guardClear)
  | .audioGet t f => some (t, .audioGet f)
  | .sleep t => some (t, .sleep)
  | .powerOnReset _ _ | .pinReset _ _ | .rxByte _ | .rxTimeout | .overflowDiscardTimeout
  | .wakeFrameTimeout | .txFrameDone | .unknownKind _ _ _ | .directoryReadDone _ | .keyScan _
  | .slowKeyScan _ | .wakeSettleEnd _ | .jackChange _ | .loadProbeDone _ | .surgeEvent | .gapEnd
  | .sampleOut _ | .entryEnd | .lessonSecond | .attentionNudge | .attentionPause => none

/-- A command that can occur. -/
def Instr.wellFormed : Instr → Bool
  | .unknownKind k _ p => !requestKinds.contains k && p.length ≤ Config.maxPayload
  | i => match i.request? with
    | some (_, r) => r.wellFormed
    | none => true

end Sys2Proof
end

