-- ==== Sys2Proof/Certificates/Slice0/Obligations.lean ====
section
/-! DEFINITION. The statements for the provers. -/

open Sys2Proof Sys2Proof.Machine

/-! ## The whole part -/

/-- A step takes the command at the front of the queue and carries it out with the rest waiting. -/
def Obligations.StepTakesTheFrontCommand : Prop :=
  ∀ (c : Instr) (cs : List Instr) (s : State),
    step { s with pending := c :: cs } = exec c { s with pending := cs }

/-- A step on an empty queue is one tick of the 1 ms time base (the model's choice,
notes/assumptions/3.md): the timers that run advance by one, everything else stays, and
LESSON_SECOND waits exactly when a full 1000 ms have been counted, and then before every other
command of the tick. -/
def Obligations.EmptyQueueIsATick : Prop :=
  ∀ s : State, s.pending = [] → ∃ t, step s = .next t ∧
    t.bank = s.bank ∧ t.params = s.params ∧ t.drill = s.drill ∧ t.judge = s.judge ∧
    t.keys = s.keys ∧ t.clips = s.clips ∧ t.out = s.out ∧ t.power = s.power ∧ t.flash = s.flash ∧
    t.speech = { s.speech with player := match s.speech.player with
      | .gap ms => .gap (ms + 1)
      | p => p } ∧
    t.link = { s.link with silence :=
      (if s.link.rx = .hunt then s.link.silence else s.link.silence + 1) } ∧
    t.attn = { s.attn with elapsed :=
      (if attentionRuns s then s.attn.elapsed + 1 else s.attn.elapsed) } ∧
    t.lesson = { s.lesson with part :=
      (if lessonCounts s then s.lesson.part + 1 else s.lesson.part) } ∧
    (Instr.lessonSecond ∈ t.pending ↔ lessonCounts t = true ∧ 1000 ≤ t.lesson.part) ∧
    (t.pending.head? = some .lessonSecond ↔ lessonCounts t = true ∧ 1000 ≤ t.lesson.part)

/-- Every command has a next state, also an event that the state rules out (the model's choice,
notes/assumptions/5.md), and none touches the commands that wait behind it (the model's choice,
notes/assumptions/23.md). -/
def Obligations.CommandsCompleteAndKeepTheQueue : Prop :=
  ∀ (c : Instr) (s : State), ∃ t, exec c s = .next t ∧ t.pending = s.pending

/-- After a reset every buffer stands within its places, the records and the lesson are well-formed,
and host speech stands apart from the scripts. -/
def Obligations.ResetMeetsTheInvariants : Prop :=
  Capacities State.reset ∧ LessonOk State.reset ∧ HostSpeechApart State.reset

/-- Every step keeps the receive buffer within 256 bytes, the REPORT QUEUE within 16 notices, the
KEY FIFO within 8 events, the UTTERANCE QUEUE within 12 entries, the ATTEMPT BUFFER within 16
letters, r within 8 and the clip counter within 127. -/
def Obligations.CapacitiesKept : Prop :=
  ∀ s t : State, Capacities s → step s = .next t → Capacities t

/-- Every step keeps the parameters within their ranges, every record well-formed, the DRILL QUEUE
within its two bounds and of eligible words, and the current word fitting its phase. Every step
keeps host speech apart from the scripts: no SAID entry is an entry of a script. -/
def Obligations.LessonOkKept : Prop :=
  (∀ s t : State, LessonOk s → step s = .next t → LessonOk t) ∧
  ∀ s t : State, HostSpeechApart s → step s = .next t → HostSpeechApart t

/-- In SLEEP no command but a reset or the end of the wake settle changes a record, the lesson, the
speech, the output or the directory, and the part stays asleep. -/
def Obligations.AsleepChangesNothing : Prop :=
  ∀ (c : Instr) (s t : State), Asleep s → endsSleep c = false → exec c s = .next t →
    Asleep t ∧ t.bank = s.bank ∧ t.params = s.params ∧ t.drill = s.drill ∧ t.judge = s.judge ∧
    t.speech = s.speech ∧ t.out = s.out ∧ t.clips = s.clips ∧ t.attn = s.attn ∧
    t.lesson = s.lesson ∧ t.keys.fifo = s.keys.fifo ∧ t.flash = s.flash

/-- In FREE mode no key scan and no event of speech or output judges anything: records, judgement
records, the DRILL QUEUE and the timers stay. -/
def Obligations.FreeTypingJudgesNothing : Prop :=
  ∀ (c : Instr) (s t : State), s.drill.mode = .free → s.drill.phase = .noPhase →
    speechOrKeys c = true → exec c s = .next t →
    t.bank = s.bank ∧ t.judge = s.judge ∧ t.params = s.params ∧ t.lesson = s.lesson ∧
    t.attn = s.attn ∧ t.drill.mode = .free ∧ t.drill.phase = .noPhase ∧
    t.drill.queue = s.drill.queue ∧ t.drill.current = s.drill.current

/-- Within one event the part always comes to rest: no bound of the model's cuts an event short
(notes/assumptions/8.md). -/
def Obligations.EventsComeToRest : Prop :=
  ∀ w : Work, (∀ i r, w.st.bank.slot i = some r → r.spelling.length ≤ 12) →
    w.st.keys.fifo.length ≤ Config.fifoPlaces →
    w.st.speech.queue.length ≤ Config.utterancePlaces → w.st.drill.script.length ≤ 17 →
    atRest (runToRest w).st = true

/-! ## The link -/

/-- Reading back the frame of a request gives the request, or BAD_ARG where its payload length is
not one that 11.5 gives. -/
def Obligations.RequestFramesAreReadBack : Prop :=
  ∀ (tag : Byte) (r : Request), r.wellFormed = true →
    parseRequest (requestFrame tag r) = if requestLengthOk r then .request r else .badArg

/-- A request row does what its frame's bytes do, arriving one by one on RXD: with the LINK PORT
ready the request is taken and answered in the event of its last byte (DEDUCED,
notes/assumptions/6.md). -/
def Obligations.RequestRowsAreTheirBytes : Prop :=
  ∀ (c : Instr) (tag : Byte) (r : Request) (s : State), c.request? = some (tag, r) →
    r.wellFormed = true → exec c s = .next (receiveAll (requestFrame tag r).bytes s)

/-- Every frame opens with A5, is five bytes longer than its payload, and sums to 0 modulo 256 after
its start byte; every notice's payload has the length of 11.6 and its frame tag 0. -/
def Obligations.FramesSumToZero : Prop :=
  (∀ f : Frame, f.bytes.head? = some 0xA5#8 ∧ f.bytes.length = 5 + f.payload.length ∧
    byteSum (f.bytes.drop 1) = 0#8) ∧
  ∀ n : Notice, n.frame.payload.length = noticeLength n ∧ n.frame.tag = 0#8

/-- A byte that is no start byte, while no frame is in progress, is discarded; a start byte with
room in the receive buffer begins a frame. 10 ms of silence end the discard of a frame whose length
byte an overflow lost, and the discard of the waking frame, with no notice. -/
def Obligations.HuntingAndDiscards : Prop :=
  (∀ (s : State) (b : Byte), (s.power.power = .active ∨ s.power.settle = true) →
     s.link.rx = .hunt →
     (b ≠ 0xA5#8 → exec (.rxByte b) s = .next (heard s)) ∧
     (b = 0xA5#8 → s.link.held < Config.receiveBytes →
       exec (.rxByte b) s =
         .next { s with link := { s.link with silence := 0, rx := .frame [b] } })) ∧
  ((∀ s : State, s.link.rx = .discardSilence →
     exec .overflowDiscardTimeout s = .next { s with link.rx := .hunt }) ∧
   (∀ s : State, (s.link.rx = .wakeLength ∨ ∃ n, s.link.rx = .wakeDiscard n) →
     exec .wakeFrameTimeout s = .next { s with link.rx := .hunt }))

/-- A length byte above 250, a bad check byte, a byte beyond 256 held and 10 ms of silence each
discard the frame in progress with one LINK_FAULT notice that names the cause, and the kind when it
had arrived. Whichever byte of a frame an overflow loses, the rest of the frame is then discarded
with no further notice: by its length, or, where the length byte was lost, until 10 ms of silence;
a lost start byte waits for the length byte, and a lost kind byte is reported as absent (DEDUCED,
notes/assumptions/15.md and 16.md). -/
def Obligations.BrokenFramesAreReported : Prop :=
  (∀ (s : State) (a n b : Byte), (s.power.power = .active ∨ s.power.settle = true) →
    Config.receiveBytes ≤ s.link.held →
    (s.link.rx = .hunt →
      exec (.rxByte 0xA5#8) s = .next (faulted .overflow none .discardLength (heard s))) ∧
    (s.link.rx = .frame [a] →
      exec (.rxByte b) s = .next (faulted .overflow none .discardSilence (heard s))) ∧
    (s.link.rx = .frame [a, n] →
      exec (.rxByte b) s = .next (faulted .overflow none (.discard (n.toNat + 2)) (heard s))) ∧
    (∀ (kind : Byte) (more : List Byte), s.link.rx = .frame (a :: n :: kind :: more) →
      more.length + 4 = 5 + n.toNat →
      exec (.rxByte b) s = .next (faulted .overflow (some kind) .hunt (heard s)))) ∧
  (∀ (s : State) (b : Byte), (s.power.power = .active ∨ s.power.settle = true) →
    (s.link.rx = .discardLength → exec (.rxByte b) s =
      .next { s with link := { s.link with silence := 0, rx :=
        (if 250 < b.toNat then .hunt else .discard (b.toNat + 3)) } }) ∧
    (∀ m, s.link.rx = .discard m → exec (.rxByte b) s =
      .next { s with link := { s.link with silence := 0, rx :=
        (if m ≤ 1 then .hunt else .discard (m - 1)) } }) ∧
    (s.link.rx = .discardSilence → exec (.rxByte b) s = .next (heard s))) ∧
  (∀ (s : State) (a n : Byte), (s.power.power = .active ∨ s.power.settle = true) →
    s.link.rx = .frame [a] → s.link.held < Config.receiveBytes → 250 < n.toNat →
    exec (.rxByte n) s = .next (faulted .check none .hunt (heard s))) ∧
  (∀ (s : State) (a n kind tag b : Byte) (payload : List Byte),
    (s.power.power = .active ∨ s.power.settle = true) →
    s.link.rx = .frame (a :: n :: kind :: tag :: payload) → payload.length = n.toNat →
    s.link.held < Config.receiveBytes →
    byteSum (n :: kind :: tag :: (payload ++ [b])) ≠ 0#8 →
    exec (.rxByte b) s = .next (faulted .check (some kind) .hunt (heard s))) ∧
  (∀ (s : State) (a n kind : Byte) (more : List Byte) (b : Byte),
    (s.power.power = .active ∨ s.power.settle = true) →
    s.link.rx = .frame (a :: n :: kind :: more) → Config.receiveBytes ≤ s.link.held →
    more.length + 4 < 5 + n.toNat →
    exec (.rxByte b) s =
      .next (faulted .overflow (some kind)
        (.discard (5 + n.toNat - (more.length + 4))) (heard s))) ∧
  (∀ (s : State) (bs : List Byte), (s.power.power = .active ∨ s.power.settle = true) →
    s.link.rx = .frame bs →
    exec .rxTimeout s = .next (faulted .timeout bs[2]? .hunt s))

/-- A notice leaves the REPORT QUEUE when its last byte has left TXD; with the overrun mark set an
OVERRUN takes the tail and the mark is cleared, in SLEEP too (the model's choice,
notes/assumptions/37.md). The next frame is chosen in the same event, a reply first. -/
def Obligations.NoticesLeaveOldestFirst : Prop :=
  ∀ (s : State) (f : Sending), s.link.tx = some f → f.isReply = false →
    exec .txFrameDone s = .next (transmit { s with link := { s.link with
      tx := none, overrun := false
      report := s.link.report.drop 1 ++ if s.link.overrun then [.overrun] else [] } }) ∧
    (∀ l : LinkPort, chooseFrame l = match l.reply, l.report with
      | some r, _ => some { isReply := true, bytes := r.bytes }
      | none, n :: _ => some { isReply := false, bytes := n.frame.bytes }
      | none, [] => none)

/-- When a reply's last byte has left TXD its slot is empty, and the oldest frame that waits is
taken and answered in that event. -/
def Obligations.RepliesEmptyTheSlot : Prop :=
  ∀ (s : State) (f : Sending), s.link.tx = some f → f.isReply = true →
    s.power.power = .active → s.power.sleepPending = false → s.link.resetPending = none →
    (s.link.frames = [] → exec .txFrameDone s =
      .next (transmit { s with link := { s.link with tx := none, reply := none } })) ∧
    (∀ g gs, s.link.frames = g :: gs → ∃ t payload, exec .txFrameDone s = .next t ∧
      t.link.frames = gs ∧
      t.link.reply = some { kind := g.kind + 0x80#8, tag := g.tag, payload := payload })

/-- A frame whose kind names no request is answered BAD_KIND, and nothing else is done. A request
whose payload is not one that 11.5 gives its kind is answered BAD_ARG, and nothing else is done but
that a WORD_PUT_IF empties the reservation (DEDUCED, notes/assumptions/18.md): with the last byte of
its frame, and so with a request row of a wrong length. Such are a wrong length, a spelling length
that does not agree with it, a QUEUE_LOAD form other than 00 and 01 or a group form not of 2 bytes,
and a RESET option other than 01 and 02; and no other payload of a request fails so. -/
def Obligations.UnknownKindsAreAnswered : Prop :=
  (∀ (s : State) (kind tag : Byte) (payload : List Byte), ready s = true →
    requestKinds.contains kind = false →
    exec (.unknownKind kind tag payload) s = .next (transmit { s with link := { s.link with
      silence := 0, reply := some { kind := kind + 0x80#8, tag := tag, payload := [0x03#8] } } })) ∧
  (∀ (s : State) (a n kind tag b : Byte) (payload : List Byte), canTake s = true →
    s.link.frames = [] → s.link.rx = .frame (a :: n :: kind :: tag :: payload) →
    payload.length = n.toNat → s.link.held < Config.receiveBytes →
    byteSum (n :: kind :: tag :: (payload ++ [b])) = 0#8 →
    requestKinds.contains kind = true → payloadGood kind payload = false →
    exec (.rxByte b) s = .next (transmit { s with
      bank := (if kind = 0x11#8 then { s.bank with reservation := none } else s.bank)
      link := { s.link with
        silence := 0, rx := .hunt
        reply := some { kind := kind + 0x80#8, tag := tag, payload := [0x02#8] } } })) ∧
  (∀ f : Frame, requestKinds.contains f.kind = true →
    (parseRequest f = .badArg ↔ payloadGood f.kind f.payload = false)) ∧
  (∀ (s : State) (c : Instr) (tag : Byte) (r : Request), ready s = true →
    c.request? = some (tag, r) → lengthGood (requestKind r) (requestPayload r).length = false →
    exec c s = .next (answered r tag [0x02#8]
      (if requestKind r = 0x11#8 then
        { heard s with bank := { s.bank with reservation := none } } else heard s)))

/-! ## Resets -/

/-- Power-on and pin reset give the blocks their reset values, as they stand once the reset's own
event has queued STARTED, begun the directory read and started the load probe (DEDUCED,
notes/assumptions/2.md; the probe's state and the player's are the model's own matter here and not
spoken of): the word bank empty, the parameters at their defaults, SETUP with nothing queued, the
records absent, the guard CLEAR with r 0 and load OPEN, the default key map and sets, STARTED
queued and begun, and a directory read begun. -/
def Obligations.HardResets : Prop :=
  ∀ (cause : ResetCause) (rate : LinkRate) (jack : Jack) (s : State), ∃ t,
    exec (match cause with
      | .power => .powerOnReset rate jack
      | .pin => .pinReset rate jack) s = .next t ∧
    t.flash = s.flash ∧
    (∀ i, t.bank.slot i = none) ∧ t.bank.reservation = none ∧ t.params = Params.defaults ∧
    t.drill.mode = .setup ∧ t.drill.phase = .noPhase ∧ t.drill.reason = .noReason ∧
    t.drill.queue = [] ∧ t.drill.current = none ∧ t.drill.praise = 0 ∧ t.drill.attempt = [] ∧
    t.judge.last = none ∧ t.judge.capture = none ∧ t.keys.fifo = [] ∧ t.keys.overrun = false ∧
    t.keys.lockout = false ∧ t.keys.keyMap = defaultKeyMap ∧ t.keys.accept = BitVec.allOnes 42 ∧
    (∀ n, t.keys.wakeSet.getLsbD n = decide (n = 26)) ∧
    t.attn = { elapsed := 0, stage := 0, lastLetter := none, running := false } ∧
    t.lesson = { seconds := 0, part := 0, timeUp := false } ∧
    t.clips.dir = .reading ∧ t.clips.count = 0 ∧ (∀ i : Fin 70, t.clips.roles[i] = 0) ∧
    t.speech.queue = [] ∧ t.out.load = .openLoad ∧ t.out.jack = jack ∧ t.out.oneMore = false ∧
    t.out.trimDown = 0 ∧ t.out.tripped = false ∧ t.out.surges = 0 ∧ t.out.clipCount = 0 ∧
    t.out.clipOverflow = false ∧ t.power.power = .active ∧ t.power.settle = false ∧
    t.power.sleepPending = false ∧ t.power.wakeReason = .none ∧ t.power.slept = false ∧
    t.link.rate = rate ∧ t.link.rx = .hunt ∧ t.link.frames = [] ∧ t.link.reply = none ∧
    t.link.report = [.started rate cause] ∧ t.link.overrun = false ∧
    t.link.mask = BitVec.allOnes 14 ∧
    t.link.tx = some { isReply := false, bytes := (Notice.started rate cause).frame.bytes }

/-- A pending SOFT reset is applied when its reply's last byte leaves TXD: the lesson's working
state is cleared, and the word bank, the parameters, the keyboard, the directory and the mask are
kept. A FULL reset does all that; the word bank is emptied, the parameters, the key map, the sets
and the mask return to their defaults, and a directory read begins. -/
def Obligations.PendingResetsAreApplied : Prop :=
  (∀ (s : State) (f : Sending), s.link.tx = some f → f.isReply = true →
     s.power.power = .active → s.power.sleepPending = false →
     s.link.resetPending = some .soft → s.link.frames = [] →
     ∃ t, exec .txFrameDone s = .next t ∧ ResetCleared t ∧ ResetKept s t ∧
       t.bank.slots = s.bank.slots ∧ t.params = s.params ∧ t.keys.keyMap = s.keys.keyMap ∧
       t.keys.accept = s.keys.accept ∧ t.keys.wakeSet = s.keys.wakeSet ∧
       t.link.mask = s.link.mask ∧ t.clips.dir = s.clips.dir ∧ t.clips.count = s.clips.count ∧
       t.clips.roles = s.clips.roles) ∧
  (∀ (s : State) (f : Sending), s.link.tx = some f → f.isReply = true →
     s.power.power = .active → s.power.sleepPending = false →
     s.link.resetPending = some .full → s.link.frames = [] →
     ∃ t, exec .txFrameDone s = .next t ∧ ResetCleared t ∧ ResetKept s t ∧
       (∀ i, t.bank.slot i = none) ∧ t.params = Params.defaults ∧ t.keys.keyMap = defaultKeyMap ∧
       t.keys.accept = BitVec.allOnes 42 ∧ t.keys.wakeSet = defaultWakeSet ∧
       t.link.mask = BitVec.allOnes 14 ∧ t.clips = readingDirectory)

/-- A RESET taken is answered OK and pending; a SLEEP taken where it is allowed sets the
sleep-pending mark, and is refused with MODE elsewhere; while either is pending no request is
taken. -/
def Obligations.ResetAndSleepWaitOnTheirReplies : Prop :=
  ∀ (s : State) (tag : Byte), ready s = true →
    exec (.resetSoft tag) s = .next
      (answeredOk .resetSoft tag { heard s with link := { (heard s).link with resetPending := some .soft } }) ∧
    exec (.resetFull tag) s = .next
      (answeredOk .resetFull tag { heard s with link := { (heard s).link with resetPending := some .full } }) ∧
    (s.drill.mode = .setup ∨ s.drill.mode = .drill ∧
        (s.drill.phase = .paused ∨ s.drill.phase = .finished) →
      exec (.sleep tag) s = .next
        (answeredOk .sleep tag { heard s with power := { s.power with sleepPending := true } })) ∧
    (s.drill.mode = .free ∨ s.drill.mode = .drill ∧ s.drill.phase ≠ .paused ∧
        s.drill.phase ≠ .finished →
      exec (.sleep tag) s = .next (refusedWith .sleep tag .mode s)) ∧
    (∀ t : State, t.link.resetPending.isSome = true ∨ t.power.sleepPending = true →
      canTake t = false)

/-! ## Identity, status, parameters -/

/-- HELLO answers the identity and capacities of R182, and GET the value a parameter holds; neither
changes anything else. NOTICE_MASK holds the marks given with STARTED and OVERRUN enabled, a set bit
for an enabled kind (the model's choice, notes/assumptions/36.md), and refuses a mark beyond the 14
kinds. -/
def Obligations.HelloGetAndNoticeMask : Prop :=
  (∀ (s : State) (tag : Byte), ready s = true →
     exec (.hello tag) s = .next (answered .hello tag
       [0x00#8, 0x36#8, 0x01#8, 0x03#8, (match s.link.rate with | .r57600 => 0x00#8 | .r115200 => 0x01#8),
        0x60#8, 0x20#8, 0x0C#8, 0x08#8, 0x10#8, 0x10#8, 0x00#8, 0x01#8, 0xFA#8, 0x46#8,
        BitVec.ofNat 8 s.clips.count, BitVec.ofNat 8 (s.clips.count / 256)] (heard s)) ∧
     (∀ id, Param.ofId id = none →
       exec (.get tag id) s = .next (refusedWith (.get id) tag .badArg s)) ∧
     (∀ id x, Param.ofId id = some x →
       exec (.get tag id) s = .next (answered (.get id) tag
         [0x00#8, id, BitVec.ofNat 8 (x.read s.params), BitVec.ofNat 8 (x.read s.params / 256)]
         (heard s)))) ∧
  (∀ (s : State) (tag : Byte) (set : Word16), ready s = true →
     (set.toNat < 2 ^ 14 → ∃ m : BitVec 14,
       (∀ n, n < 14 → m.getLsbD n = (set.getLsbD n || n == 0 || n == 13)) ∧
       exec (.noticeMask tag set) s = .next (answered (.noticeMask set) tag
         [0x00#8, byte m.toNat, byte (m.toNat / 256)]
         { heard s with link := { (heard s).link with mask := m } })) ∧
     (2 ^ 14 ≤ set.toNat →
       exec (.noticeMask tag set) s = .next (refusedWith (.noticeMask set) tag .badArg s)))

/-- STATUS answers the record of 11.7 as it stands, and with the clear option clears the
slept-since-status mark and the key-FIFO overrun mark, nothing else. AUDIO_GET answers the state of
the OUTPUT STAGE as it stands, and with the clear option then sets the clip counter to 0 and clears
its overflow mark, nothing else. -/
def Obligations.StatusAndAudioGetReport : Prop :=
  (∀ (s : State) (tag flags : Byte), ready s = true →
     exec (.status tag flags) s = .next (answered (.status flags) tag
       [0x00#8, s.drill.mode.code, s.drill.phase.code, s.drill.reason.code, indexByte s.drill.word,
        byte s.drill.queue.length, byte s.drill.attempt.length, byte s.speech.queue.length,
        s.clips.dir.code, s.out.load.code, boolByte s.out.tripped, byte s.params.volume,
        byte (effectiveStep s.params s.out), byte s.lesson.seconds, byte (s.lesson.seconds / 256),
        byte s.params.lessonLimit, byte (s.params.lessonLimit / 256), byte s.attn.stage, 0x00#8,
        s.power.wakeReason.code,
        byte (s.lesson.timeUp.toNat + 2 * s.power.slept.toNat + 4 * s.keys.overrun.toNat +
          8 * s.link.overrun.toNat)]
       (if flags.getLsbD 0 then
         { heard s with power := { s.power with slept := false },
                        keys := { s.keys with overrun := false } }
        else heard s))) ∧
  (∀ (s : State) (tag flags : Byte), ready s = true →
     exec (.audioGet tag flags) s = .next (answered (.audioGet flags) tag
       [0x00#8, s.out.load.code, (match s.out.jack with | .out => 0x00#8 | .inserted => 0x01#8),
        byte ((match s.out.probe with | .idle => 0 | .requested => 1 | .running => 2) +
          128 * s.out.oneMore.toNat),
        boolByte s.out.tripped, byte s.params.volume,
        byte (match s.out.load with
          | .openLoad => 0 | .speaker => s.params.capSpeaker | .phones => s.params.capPhones),
        byte s.out.trimDown, byte (effectiveStep s.params s.out), byte s.out.clipCount,
        boolByte s.out.clipOverflow]
       (if flags.getLsbD 0 then
         { heard s with out := { s.out with clipCount := 0, clipOverflow := false } }
        else heard s)))

/-- SET refuses an identifier that names no parameter with BAD_ARG and a setup parameter outside
SETUP with MODE; otherwise the parameter takes the value brought into its range, no other parameter
changes, and VOLUME, LESSON_LIMIT and a changed WARN_LIMIT have their effects. Under a changed
WARN_LIMIT each word whose standing changes raises a STANDING notice, in index order, and loses a
reservation naming it. -/
def Obligations.SetClampsAndWrites : Prop :=
  ∀ (s : State) (tag id : Byte) (v : Word16), ready s = true →
    (Param.ofId id = none → exec (.set tag id v) s = .next (refusedWith (.set id v) tag .badArg s)) ∧
    ∀ x, Param.ofId id = some x →
      (x.live = false → s.drill.mode ≠ .setup →
        exec (.set tag id v) s = .next (refusedWith (.set id v) tag .mode s)) ∧
      (x.live = true ∨ s.drill.mode = .setup → ∃ t, ∃ taken : Nat,
        taken = (if v.toNat < x.range.1 then x.range.1
                 else if x.range.2 < v.toNat then x.range.2 else v.toNat) ∧
        exec (.set tag id v) s = .next (answered (.set id v) tag
          [if x.range.1 ≤ v.toNat ∧ v.toNat ≤ x.range.2 then 0x00#8 else 0x01#8, id,
           byte taken, byte (taken / 256)] t) ∧
        x.read t.params = taken ∧
        (∀ y : Param, y ≠ x → y.read t.params = y.read s.params) ∧
        t.drill = s.drill ∧ t.speech = s.speech ∧ t.judge = s.judge ∧ t.keys = s.keys ∧
        t.out = (if x = .volume then { s.out with trimDown := 0 } else s.out) ∧
        t.lesson = (if x = .lessonLimit then
            { s.lesson with timeUp := decide (0 < taken ∧ taken * 60 ≤ s.lesson.seconds) }
          else s.lesson) ∧
        (∀ i, t.bank.slot i = if x = .warnLimit then
            (s.bank.slot i).map fun r =>
              if taken = s.params.warnLimit then r else derived taken r
          else s.bank.slot i) ∧
        t.bank.reservation = (if x = .warnLimit then s.bank.reservation.filter fun i =>
            match s.bank.slot i with
            | some r => decide (taken = s.params.warnLimit ∨ deriveStanding taken r = r.standing)
            | none => true
          else s.bank.reservation) ∧
        t.link = (if x = .warnLimit ∧ taken ≠ s.params.warnLimit then
            (List.range 96).filterMap fun i => match s.bank.slot i with
              | some r => if deriveStanding taken r = r.standing then none
                  else some (.standing i r.standing (deriveStanding taken r) r.strain)
              | none => none
          else []).foldl offer (heard s).link)

/-! ## The word bank -/

/-- WORD_PUT is refused with MODE outside SETUP and with BAD_ARG where a field fails its check;
else the named record takes the fields of R12, no other slot changes, a reservation naming it is
cleared, an ineligible word leaves the DRILL QUEUE, a standing changed from the one before raises
one STANDING notice, and the other blocks stay as they were. -/
def Obligations.WordPutWrites : Prop :=
  ∀ (s : State) (tag : Byte) (w : WordWrite), ready s = true → w.spelling.length ≤ 12 →
    (s.drill.mode ≠ .setup →
      exec (.wordPut tag w) s = .next (refusedWith (.wordPut w) tag .mode s)) ∧
    (s.drill.mode = .setup → checkWrite s.clips w = none →
      exec (.wordPut tag w) s = .next (refusedWith (.wordPut w) tag .badArg s)) ∧
    (∀ letters, s.drill.mode = .setup → checkWrite s.clips w = some letters → ∃ t r,
      exec (.wordPut tag w) s = .next (answered (.wordPut w) tag (writeAnswer w) t) ∧
      t.bank.slot w.index.toNat = some r ∧
      Written s.params w letters ((s.bank.slot w.index.toNat).getD freshRecord) r ∧
      (∀ j, j ≠ w.index.toNat → t.bank.slot j = s.bank.slot j) ∧
      t.bank.reservation =
        (if s.bank.reservation = some w.index.toNat then none else s.bank.reservation) ∧
      t.drill = { s.drill with queue := if eligible (some r) then s.drill.queue
                                        else s.drill.queue.filter (· ≠ w.index.toNat) } ∧
      (s.bank.slot w.index.toNat = none → t.link = (heard s).link) ∧
      (∀ o, s.bank.slot w.index.toNat = some o → t.link =
        (if o.standing = r.standing then (heard s).link
         else offer (heard s).link (.standing w.index.toNat o.standing r.standing r.strain))) ∧
      t.params = s.params ∧ t.judge = s.judge ∧ t.speech = s.speech ∧ t.keys = s.keys ∧
      t.out = s.out ∧ t.clips = s.clips ∧ t.attn = s.attn ∧ t.lesson = s.lesson ∧
      t.power = s.power)

/-- The checks of a write, field by field (R9, R10). -/
def Obligations.WritesAreChecked : Prop :=
  ∀ (c : ClipStore) (w : WordWrite) (letters : List Letter),
    checkWrite c w = some letters ↔
      w.index.toNat ≤ 95 ∧ w.spelling.map letterOfByte = letters.map some ∧
      1 ≤ letters.length ∧ letters.length ≤ 12 ∧
      1 ≤ w.wordClip.toNat ∧ w.wordClip.toNat ≤ 1023 ∧ w.sentClip.toNat ≤ 1023 ∧
      (c.dir = .ok → w.wordClip.toNat ≤ c.count ∧ w.sentClip.toNat ≤ c.count) ∧
      w.group.toNat ≤ 7

/-- WORD_PUT_IF answers the first failing check of R16 and changes no record then; it carries its
write out only with the reservation naming the word, and raises a STANDING notice where the
standing changes; whatever the answer, the reservation slot is empty after it, also where a
spelling longer than 12 makes its length wrong (DEDUCED, notes/assumptions/18.md). -/
def Obligations.WordPutIfNeedsItsReservation : Prop :=
  ∀ (s : State) (tag : Byte) (w : WordWrite), ready s = true →
    ∃ t payload, exec (.wordPutIf tag w) s = .next (answered (.wordPutIf w) tag payload t) ∧
      t.bank.reservation = none ∧
      (match checkWrite s.clips w, s.bank.slot w.index.toNat with
       | none, _ => payload = [0x02#8] ∧ t = { heard s with bank := { s.bank with reservation := none } }
       | some _, none => payload = [0x0C#8] ∧ t = { heard s with bank := { s.bank with reservation := none } }
       | some letters, some o =>
         if s.drill.word = some w.index.toNat then
           payload = [0x06#8, indexByte s.drill.word] ∧
             t = { heard s with bank := { s.bank with reservation := none } }
         else if s.drill.mode = .drill ∧ o.spelling ≠ letters then
           payload = [0x04#8] ∧ t = { heard s with bank := { s.bank with reservation := none } }
         else if s.bank.reservation ≠ some w.index.toNat then
           payload = [0x07#8] ∧ t = { heard s with bank := { s.bank with reservation := none } }
         else
           payload = writeAnswer w ∧ (∃ r, t.bank.slot w.index.toNat = some r ∧
             Written s.params w letters o r ∧
             t.link = (if o.standing = r.standing then (heard s).link
               else offer (heard s).link (.standing w.index.toNat o.standing r.standing r.strain)) ∧
             t.drill = { s.drill with queue := if eligible (some r) then s.drill.queue
                                               else s.drill.queue.filter (· ≠ w.index.toNat) }) ∧
           (∀ j, j ≠ w.index.toNat → t.bank.slot j = s.bank.slot j) ∧
           t.params = s.params ∧ t.judge = s.judge ∧ t.speech = s.speech ∧ t.keys = s.keys)

/-- WORD_GET answers the record as it stands, and with the reserve option places the index in the
reservation slot; WORD_DROP, in SETUP, empties a present slot, clears a reservation naming it and
takes the word out of the DRILL QUEUE. -/
def Obligations.WordGetReservesAndDropEmpties : Prop :=
  ∀ (s : State) (tag index flags : Byte), ready s = true →
    (96 ≤ index.toNat →
      exec (.wordGet tag index flags) s =
        .next (refusedWith (.wordGet index flags) tag .badArg s)) ∧
    (index.toNat < 96 → s.bank.slot index.toNat = none →
      exec (.wordGet tag index flags) s =
        .next (refusedWith (.wordGet index flags) tag .noWord s)) ∧
    (∀ r, s.bank.slot index.toNat = some r →
      exec (.wordGet tag index flags) s = .next (answered (.wordGet index flags) tag
        (0x00#8 :: r.bytes index.toNat)
        (if flags.getLsbD 0 then
          { heard s with bank := { s.bank with reservation := some index.toNat } }
         else heard s))) ∧
    (s.drill.mode ≠ .setup →
      exec (.wordDrop tag index) s = .next (refusedWith (.wordDrop index) tag .mode s)) ∧
    (s.drill.mode = .setup → 96 ≤ index.toNat →
      exec (.wordDrop tag index) s = .next (refusedWith (.wordDrop index) tag .badArg s)) ∧
    (s.drill.mode = .setup → index.toNat < 96 → s.bank.slot index.toNat = none →
      exec (.wordDrop tag index) s = .next (refusedWith (.wordDrop index) tag .noWord s)) ∧
    (∀ r, s.drill.mode = .setup → s.bank.slot index.toNat = some r → ∃ b : WordBank,
      b.slot index.toNat = none ∧ (∀ j, j ≠ index.toNat → b.slot j = s.bank.slot j) ∧
      b.reservation =
        (if s.bank.reservation = some index.toNat then none else s.bank.reservation) ∧
      exec (.wordDrop tag index) s = .next (answeredOk (.wordDrop index) tag
        { heard s with bank := b,
                       drill := { s.drill with queue := s.drill.queue.filter (· ≠ index.toNat) } }))

/-- A word's standing is the first of the six steps of R4 that holds. -/
def Obligations.StandingIsDerived : Prop :=
  ∀ (limit : Nat) (r : WordRecord),
    (deriveStanding limit r = .benched ↔ r.strain = 256) ∧
    (deriveStanding limit r = .mastered ↔ r.strain ≠ 256 ∧ r.latch = true) ∧
    (deriveStanding limit r = .struggling ↔ r.strain ≠ 256 ∧ r.latch = false ∧ 128 ≤ r.strain) ∧
    (deriveStanding limit r = .shaky ↔
      r.strain ≠ 256 ∧ r.latch = false ∧ r.strain < 128 ∧ limit ≤ r.strain) ∧
    (deriveStanding limit r = .fresh ↔
      r.strain < 128 ∧ r.latch = false ∧ r.strain < limit ∧ r.judged = 0) ∧
    (deriveStanding limit r = .practice ↔
      r.strain < 128 ∧ r.latch = false ∧ r.strain < limit ∧ r.judged ≠ 0)

/-! ## Judging -/

/-- The slip list of any attempt is no longer than the longer of target and attempt, and is empty
exactly when the attempt equals the target, which is when the verdict is RIGHT. It is the one list
that the walk of R25 records: at each step the first of match, swapped, extra, missing and
substitute that applies, and the leftover letters at the end. Every slip names the letters that
stand at its positions, the fields R31 calls absent are absent, and positions rise along the list.
-/
def Obligations.SlipListsAreSound : Prop :=
  (∀ target attempt : List Letter,
     (slipsOf target attempt).length ≤ max target.length attempt.length ∧
     (slipsOf target attempt = [] ↔ attempt = target) ∧
     (verdictOf target attempt = .right ↔ attempt = target)) ∧
  (∀ (target attempt : List Letter) (slips : List Slip),
     Walk target attempt 1 1 slips ↔ slips = slipsOf target attempt) ∧
  (∀ target attempt : List Letter,
     (∀ s ∈ slipsOf target attempt,
       s.expected = letterAt target s.targetPos ∧ s.typed = letterAt attempt s.typedPos ∧
       s.expected ≠ s.typed ∧
       (s.targetPos.isSome = true ↔ s.kind ≠ .extra) ∧ (s.expected.isSome = true ↔ s.kind ≠ .extra) ∧
       (s.typedPos.isSome = true ↔ s.kind ≠ .missing) ∧
       (s.typed.isSome = true ↔ s.kind ≠ .missing)) ∧
     ((slipsOf target attempt).filterMap (·.targetPos)).Pairwise (· < ·) ∧
     ((slipsOf target attempt).filterMap (·.typedPos)).Pairwise (· < ·))

/-- A GO on a wrong attempt in LISTEN: strain rises by 4 times (1 plus the slips up to 3), to 256 at
most, with what benching brings; the streak ends, the counts move, the records are written, the
current word's last verdict is WRONG, a reservation naming the word is cleared, and the phase is
FEEDBACK, or SPELLOUT with the word benched or no try left. VERDICT is raised, then STANDING where
the standing changed, then PHASE. The script is that of the phase: ALMOST for a single slip,
TRY_AGAIN and the word clip as the retry's PROMPT, or the spelling-out, THE_WORD_IS, the word clip,
every letter name and the word clip again. -/
def Obligations.WrongAttemptsRaiseStrain : Prop :=
  ∀ (w : Work) (c : Current) (r : WordRecord) (pos : Nat), w.st.drill.mode = .drill →
    w.st.drill.phase = .listen → w.st.drill.current = some c → w.st.bank.slot c.word = some r →
    w.st.drill.attempt ≠ [] → w.st.drill.attempt ≠ r.spelling →
    ∃ (r' : WordRecord) (first : Slip) (more : List Slip),
      slipsOf r.spelling w.st.drill.attempt = first :: more ∧
      (takeEvent (.key .go pos) w).st.bank.slot c.word = some r' ∧
      r'.strain = min 256 (r.strain + 4 * (1 + min (more.length + 1) 3)) ∧ r'.streak = 0 ∧
      r'.latch = false ∧
      r'.credit = (if 256 ≤ r.strain + 4 * (1 + min (more.length + 1) 3)
        then w.st.params.returnCredit else r.credit) ∧
      r'.judged = min 65535 (r.judged + 1) ∧ r'.right = r.right ∧
      r'.standing = deriveStanding w.st.params.warnLimit r' ∧
      r'.spelling = r.spelling ∧ r'.enabled = r.enabled ∧
      (∀ j, j ≠ c.word → (takeEvent (.key .go pos) w).st.bank.slot j = w.st.bank.slot j) ∧
      (takeEvent (.key .go pos) w).st.judge =
        { last := some { word := c.word, tryNo := c.tryNo, verdict := .wrong,
                         attempt := w.st.drill.attempt, slips := first :: more }
          capture := match w.st.judge.capture with
            | none => some { word := c.word, tryNo := c.tryNo, first := first,
                             total := more.length + 1 }
            | some held => some held } ∧
      (takeEvent (.key .go pos) w).raised = w.raised ++
        (.verdict c.word c.tryNo .wrong (more.length + 1) r'.strain w.st.judge.capture.isNone ::
          (if r'.standing = r.standing then []
           else [.standing c.word r.standing r'.standing r'.strain]) ++
          [.phase .drill (if r'.strain = 256 ∨ w.st.params.triesMax ≤ c.tryNo then .spellout
                          else .feedback) .noReason (some c.word)]) ∧
      (takeEvent (.key .go pos) w).st.bank.reservation =
        (if w.st.bank.reservation = some c.word then none else w.st.bank.reservation) ∧
      (takeEvent (.key .go pos) w).st.drill.phase =
        (if r'.strain = 256 ∨ w.st.params.triesMax ≤ c.tryNo then .spellout else .feedback) ∧
      (takeEvent (.key .go pos) w).st.drill.current = some { c with lastVerdict := some .wrong } ∧
      (takeEvent (.key .go pos) w).st.drill.script =
        (if r'.strain = 256 ∨ w.st.params.triesMax ≤ c.tryNo then
          [roleItem .theWordIs .feedback 0 false, clipItem r.wordClip .feedback 0] ++
            (r.spelling.map fun l => roleItem (.letterName l) .feedback 250 false) ++
            [clipItem r.wordClip .feedback 250]
         else
          (if more = [] then [roleItem .almost .feedback 0 true] else []) ++
            [roleItem .tryAgain .feedback 0 true, clipItem r.wordClip .prompt 0]) ∧
      (takeEvent (.key .go pos) w).st.drill.attempt = w.st.drill.attempt ∧
      (takeEvent (.key .go pos) w).st.drill.queue = w.st.drill.queue ∧
      (takeEvent (.key .go pos) w).st.attn.running = false

/-- A GO on a right attempt in LISTEN: strain falls by the credit of 2 or 1, the streak grows or
ends, the MASTERED latch is set when streak and strain earn it, the counts rise, the last judgement
record is written and the capture kept, the current word's last verdict is RIGHT, and FEEDBACK is
entered with the praise of the rotation. VERDICT is raised, then the word's STANDING where it
changed, then the STANDING notices of the words that return from the bench, then PHASE; a
reservation naming the word is cleared. -/
def Obligations.RightAttemptsEarnCredit : Prop :=
  ∀ (w : Work) (c : Current) (r : WordRecord) (pos : Nat), w.st.drill.mode = .drill →
    w.st.drill.phase = .listen → w.st.drill.current = some c → w.st.bank.slot c.word = some r →
    w.st.drill.attempt ≠ [] → w.st.drill.attempt = r.spelling → r.strain < 256 →
    ∃ (r' : WordRecord) (credit : Nat),
      credit = (if c.tryNo = 1 ∧ c.hints = 0 ∧ c.spelledOut = false then 2 else 1) ∧
      (takeEvent (.key .go pos) w).st.bank.slot c.word = some r' ∧
      r'.strain = r.strain - credit ∧
      r'.streak = (if credit = 2 then min 7 (r.streak + 1) else 0) ∧
      (r'.latch = true ↔
        r.latch = true ∨ w.st.params.masterStreak ≤ r'.streak ∧ r'.strain ≤ 16) ∧
      r'.credit = r.credit ∧ r'.judged = min 65535 (r.judged + 1) ∧
      r'.right = min 65535 (r.right + 1) ∧
      r'.standing = deriveStanding w.st.params.warnLimit r' ∧
      r'.spelling = r.spelling ∧ r'.enabled = r.enabled ∧
      (takeEvent (.key .go pos) w).st.judge =
        { last := some { word := c.word, tryNo := c.tryNo, verdict := .right,
                         attempt := w.st.drill.attempt, slips := [] }
          capture := w.st.judge.capture } ∧
      (∃ returned : List Notice,
        (takeEvent (.key .go pos) w).raised = w.raised ++
          (.verdict c.word c.tryNo .right 0 r'.strain false ::
            (if r'.standing = r.standing then []
             else [.standing c.word r.standing r'.standing r'.strain]) ++ returned ++
            [.phase .drill .feedback .noReason (some c.word)]) ∧
        (w.st.params.benchReturn ≠ 1 → returned = []) ∧
        ∀ n ∈ returned, ∃ j after strain, n = .standing j .benched after strain ∧ j ≠ c.word) ∧
      (takeEvent (.key .go pos) w).st.bank.reservation ≠ some c.word ∧
      (takeEvent (.key .go pos) w).st.drill.phase = .feedback ∧
      (takeEvent (.key .go pos) w).st.drill.current = some { c with lastVerdict := some .right } ∧
      (takeEvent (.key .go pos) w).st.drill.praise = w.st.drill.praise + 1 ∧
      (takeEvent (.key .go pos) w).st.drill.script =
        [{ source := .role (.praise w.st.drill.praise), cls := .feedback, gap := 0,
           skippable := true }] ∧
      (takeEvent (.key .go pos) w).st.drill.attempt = w.st.drill.attempt ∧
      (takeEvent (.key .go pos) w).st.attn.running = false

/-- A right judgement counts down the return credit of every other benched word, and returns the
ready ones in index order while the queue has room: strain at WARN_LIMIT, streak and credit 0, at
the tail of the DRILL QUEUE. The notices are VERDICT, the word's STANDING, the STANDING of each
return in index order, and PHASE; a reservation is cleared that names the word judged, a word whose
credit is counted down, or one that returns, and no other. -/
def Obligations.RightJudgementsReturnBenchedWords : Prop :=
  ∀ (w : Work) (c : Current) (r : WordRecord) (pos : Nat), w.st.drill.mode = .drill →
    w.st.drill.phase = .listen → w.st.drill.current = some c → w.st.bank.slot c.word = some r →
    w.st.drill.attempt ≠ [] → w.st.drill.attempt = r.spelling → r.strain < 256 →
    ∃ new : List Nat,
      (takeEvent (.key .go pos) w).st.drill.queue = w.st.drill.queue ++ new ∧
      (w.st.params.benchReturn ≠ 1 → new = []) ∧ new.Pairwise (· < ·) ∧
      w.st.drill.queue.length + new.length ≤ max w.st.drill.queue.length 31 ∧
      (∀ j ∈ new, ∃ q, j ≠ c.word ∧ w.st.bank.slot j = some q ∧ q.standing = .benched ∧
        q.enabled = true ∧ q.credit ≤ 1 ∧
        (takeEvent (.key .go pos) w).st.bank.slot j = some (derived w.st.params.warnLimit
          { q with strain := w.st.params.warnLimit, streak := 0, credit := 0 })) ∧
      (∀ j q, j ≠ c.word → w.st.bank.slot j = some q → j ∉ new →
        (takeEvent (.key .go pos) w).st.bank.slot j =
          some (if q.standing = .benched then { q with credit := q.credit - 1 } else q) ∧
        (w.st.params.benchReturn = 1 → q.standing = .benched → q.enabled = true → q.credit ≤ 1 →
          31 ≤ w.st.drill.queue.length + (new.filter (· < j)).length)) ∧
      (∃ r', (takeEvent (.key .go pos) w).st.bank.slot c.word = some r' ∧
        (takeEvent (.key .go pos) w).raised = w.raised ++
          (.verdict c.word c.tryNo .right 0 r'.strain false ::
            (if r'.standing = r.standing then []
             else [.standing c.word r.standing r'.standing r'.strain]) ++
            (new.filterMap fun j => match w.st.bank.slot j with
              | some q =>
                let back := deriveStanding w.st.params.warnLimit
                  { q with strain := w.st.params.warnLimit, streak := 0, credit := 0 }
                if back = .benched then none
                else some (.standing j .benched back w.st.params.warnLimit)
              | none => none) ++
            [.phase .drill .feedback .noReason (some c.word)])) ∧
      (takeEvent (.key .go pos) w).st.bank.reservation = w.st.bank.reservation.filter fun j =>
        decide (j ≠ c.word) && decide (j ∉ new) && (match w.st.bank.slot j with
          | some q => !(decide (q.standing = .benched) && decide (0 < q.credit))
          | none => true)

/-- A HINT in LISTEN with a letter still to reveal reveals one more: STARTS_WITH for the first, else
NEXT_LETTER, and the letter's name are placed as PROMPT entries, and strain rises by 2, to 255 at
most, with a STANDING notice where the standing changes, clearing a reservation that names the word.
With none to reveal it places the word clip, as REPEAT does, and changes no record. Nothing typed is
touched, and the HINT is engagement. -/
def Obligations.HintsRevealAndCost : Prop :=
  ∀ (w : Work) (c : Current) (r : WordRecord) (pos : Nat), w.st.drill.mode = .drill →
    w.st.drill.phase = .listen → w.st.drill.current = some c → w.st.bank.slot c.word = some r →
    ((takeEvent (.key .hint pos) w).st.drill.attempt = w.st.drill.attempt ∧
      (takeEvent (.key .hint pos) w).st.drill.phase = .listen ∧
      (takeEvent (.key .hint pos) w).st.judge = w.st.judge ∧
      (takeEvent (.key .hint pos) w).st.attn = { w.st.attn with elapsed := 0, stage := 0 }) ∧
    (∀ (l : Letter) (r' : WordRecord) (first second : Entry) (charged : Work),
      c.hints + 1 < r.spelling.length → r.spelling[c.hints]? = some l →
      r' = derived w.st.params.warnLimit { r with strain := min 255 (r.strain + 2) } →
      first = { cueEntry w.st.clips (if c.hints = 0 then .startsWith else .nextLetter) with
                cls := .prompt } →
      second = { cueEntry w.st.clips (.letterName l) with cls := .prompt } →
      charged = w.raiseAll (if r'.standing = r.standing then []
        else [.standing c.word r.standing r'.standing r'.strain]) →
      (takeEvent (.key .hint pos) w).st.speech = (place second (place first charged)).st.speech ∧
      (takeEvent (.key .hint pos) w).raised = (place second (place first charged)).raised ∧
      (w.st.speech.queue.length + 2 ≤ 12 →
        (takeEvent (.key .hint pos) w).st.speech =
          { w.st.speech with queue := w.st.speech.queue ++ [first, second] } ∧
        (takeEvent (.key .hint pos) w).raised = charged.raised)) ∧
    (c.hints + 1 < r.spelling.length →
      (takeEvent (.key .hint pos) w).st.drill.current = some { c with hints := c.hints + 1 } ∧
      (takeEvent (.key .hint pos) w).st.bank.slot c.word =
        some (derived w.st.params.warnLimit { r with strain := min 255 (r.strain + 2) }) ∧
      (takeEvent (.key .hint pos) w).st.bank.reservation ≠ some c.word ∧
      (∀ j, j ≠ c.word → (takeEvent (.key .hint pos) w).st.bank.slot j = w.st.bank.slot j)) ∧
    (r.spelling.length ≤ c.hints + 1 →
      (takeEvent (.key .hint pos) w).st.drill.current = some c ∧
      (takeEvent (.key .hint pos) w).st.bank = w.st.bank ∧
      (takeEvent (.key .hint pos) w).st.speech =
        (place { cueEntry w.st.clips .oneKey with clip := r.wordClip, cls := .prompt }
          w).st.speech ∧
      (takeEvent (.key .hint pos) w).raised =
        (place { cueEntry w.st.clips .oneKey with clip := r.wordClip, cls := .prompt } w).raised)

/-- JUDGEMENT_GET answers the last judgement record and changes nothing; SLIP_GET answers the held
capture and empties the record. -/
def Obligations.JudgementRecordsAreRead : Prop :=
  ∀ (s : State) (tag : Byte), ready s = true →
    exec (.judgementGet tag) s = .next (answered .judgementGet tag
      (match s.judge.last with
       | some j => [0x00#8, 0x01#8] ++ j.bytes
       | none => [0x00#8, 0x00#8]) (heard s)) ∧
    (∀ c, s.judge.capture = some c →
      exec (.slipGet tag) s = .next (answered .slipGet tag
        ([0x00#8, 0x01#8, byte c.word, byte c.tryNo, c.first.kind.code,
          positionByte c.first.targetPos, positionByte c.first.typedPos,
          letterField c.first.expected, letterField c.first.typed, byte c.total])
        { heard s with judge := { s.judge with capture := none } })) ∧
    (s.judge.capture = none →
      exec (.slipGet tag) s = .next (answered .slipGet tag [0x00#8, 0x00#8] (heard s)))

/-! ## The drill -/

/-- QUEUE_LOAD is taken in SETUP and in FINISHED: a list gives its eligible words once each in list
order, a group bitmap the first 32 eligible words of the marked groups in index order; the reply
counts the taken and the skipped. -/
def Obligations.QueueLoadBuilds : Prop :=
  ∀ (s : State) (tag : Byte), ready s = true →
    (¬ (s.drill.mode = .setup ∨ s.drill.mode = .drill ∧ s.drill.phase = .finished) →
      (∀ l : List Byte, l.length ≤ 249 → exec (.queueLoadList tag l) s =
        .next (refusedWith (.queueLoadList l) tag .mode s)) ∧
      ∀ g, exec (.queueLoadGroups tag g) s =
        .next (refusedWith (.queueLoadGroups g) tag .mode s)) ∧
    (s.drill.mode = .setup ∨ s.drill.mode = .drill ∧ s.drill.phase = .finished →
      (∀ l : List Byte, l.length ≤ 249 → (32 < l.length ∨ ∃ b ∈ l, 96 ≤ b.toNat) →
        exec (.queueLoadList tag l) s = .next (refusedWith (.queueLoadList l) tag .badArg s)) ∧
      (∀ l : List Byte, l.length ≤ 32 → (∀ b ∈ l, b.toNat < 96) → ∃ q : List Nat,
        q.Nodup ∧ q.Sublist (l.map (·.toNat)) ∧
        (∀ i, i ∈ q ↔ i ∈ l.map (·.toNat) ∧ eligible (s.bank.slot i) = true) ∧
        exec (.queueLoadList tag l) s = .next (answered (.queueLoadList l) tag
          [0x00#8, byte q.length, byte (l.length - q.length)]
          { heard s with drill := { s.drill with queue := q } })) ∧
      (∀ g : Byte, ∃ marked q : List Nat,
        marked = (List.range 96).filter (fun i => match s.bank.slot i with
          | some r => g.getLsbD r.group
          | none => false) ∧
        q = (marked.filter fun i => eligible (s.bank.slot i)).take 32 ∧
        exec (.queueLoadGroups tag g) s = .next (answered (.queueLoadGroups g) tag
          [0x00#8, byte q.length, byte (marked.length - q.length)]
          { heard s with drill := { s.drill with queue := q } })))

/-- QUEUE_ADD appends an eligible word that is neither queued nor current while a place is free, and
answers the first check of R67 that fails; QUEUE_GET shows the current word and the queue, head
first, and changes nothing. -/
def Obligations.QueueAddAndQueueGet : Prop :=
  ∀ (s : State) (tag index : Byte), ready s = true →
    exec (.queueGet tag) s = .next (answered .queueGet tag
      ([0x00#8, indexByte s.drill.word, byte s.drill.queue.length] ++ s.drill.queue.map byte)
      (heard s)) ∧
    exec (.queueAdd tag index) s = .next (
      if s.drill.mode = .free then refusedWith (.queueAdd index) tag .mode s
      else if 95 < index.toNat then refusedWith (.queueAdd index) tag .badArg s
      else if s.bank.slot index.toNat = none then refusedWith (.queueAdd index) tag .noWord s
      else if eligible (s.bank.slot index.toNat) = false ∨ index.toNat ∈ s.drill.queue ∨
          s.drill.word = some index.toNat then refusedWith (.queueAdd index) tag .badArg s
      else if 32 ≤ s.drill.queue.length + s.drill.current.isSome.toNat then
        refusedWith (.queueAdd index) tag .full s
      else answeredOk (.queueAdd index) tag
        { heard s with drill := { s.drill with queue := s.drill.queue ++ [index.toNat] } })

/-- START is refused with MODE, CLIPS, AUDIO or MODE in the order of R58; else the mode is DRILL in
phase OPENING with no current word, the lesson time starts at 0 and a load probe is asked for: a
probe that runs already takes the one-more mark and does not end OPENING, else a probe waits for the
playing entry, or runs at once with the player IDLE. -/
def Obligations.StartEntersOpening : Prop :=
  ∀ (s : State) (tag : Byte), ready s = true →
    (s.drill.mode ≠ .setup → exec (.start tag) s = .next (refusedWith .start tag .mode s)) ∧
    (s.drill.mode = .setup → s.clips.dir ≠ .ok →
      exec (.start tag) s = .next (refusedWith .start tag .clips s)) ∧
    (s.drill.mode = .setup → s.clips.dir = .ok → s.out.tripped = true →
      exec (.start tag) s = .next (refusedWith .start tag .audio s)) ∧
    (s.drill.mode = .setup → s.clips.dir = .ok → s.out.tripped = false → s.drill.queue = [] →
      exec (.start tag) s = .next (refusedWith .start tag .mode s)) ∧
    (s.drill.mode = .setup → s.clips.dir = .ok → s.out.tripped = false → s.drill.queue ≠ [] →
      s.drill.script = [] → ∃ t, exec (.start tag) s = .next t ∧
        t.drill = { s.drill with mode := .drill, phase := .opening, reason := .noReason,
                                 current := none } ∧
        t.lesson = { seconds := 0, part := 0, timeUp := false } ∧ t.out.probe ≠ .idle ∧
        (s.out.probe = .running → t.out.probe = .running ∧ t.out.oneMore = true ∧
          t.out.stale = true) ∧
        (s.out.probe ≠ .running → t.out.oneMore = s.out.oneMore ∧ t.out.stale = false ∧
          (s.speech.player = .idle → t.out.probe = .running ∧ t.speech.player = .held) ∧
          (∀ p, s.speech.player = .play p → t.out.probe = .requested)) ∧
        t.bank = s.bank ∧ t.judge = s.judge ∧ t.params = s.params ∧ t.attn = s.attn ∧
        t.link.reply = some { kind := 0xA3#8, tag := tag, payload := [0x00#8] } ∧
        (s.speech.queue = [] → t.link.report =
          (offer s.link (.phase .drill .opening .noReason none)).report))

/-- FREE_START is refused with MODE outside SETUP and with CLIPS without a directory; else the mode
is FREE with the ATTEMPT BUFFER and the KEY FIFO empty, and a PHASE notice is raised. -/
def Obligations.FreeStartEntersFree : Prop :=
  ∀ (s : State) (tag : Byte), ready s = true →
    (s.drill.mode ≠ .setup →
      exec (.freeStart tag) s = .next (refusedWith .freeStart tag .mode s)) ∧
    (s.drill.mode = .setup → s.clips.dir ≠ .ok →
      exec (.freeStart tag) s = .next (refusedWith .freeStart tag .clips s)) ∧
    (s.drill.mode = .setup → s.clips.dir = .ok →
      exec (.freeStart tag) s = .next (answeredOk .freeStart tag
        { heard s with
          drill := { s.drill with mode := .free, phase := .noPhase, reason := .noReason,
                                  attempt := [] }
          keys := { s.keys with fifo := [] }
          link := offer (heard s).link (.phase .free .noPhase .noReason s.drill.word) }))

/-- STOP is refused with MODE in SETUP. In DRILL it ends the lesson unsettled, with only host speech
left in the UTTERANCE QUEUE; in FREE it clears the line, keeps the DRILL QUEUE and leaves no echo or
cue. Every other entry stays, in its order, and a playing one plays on; after a cut the player takes
the next. The mode becomes SETUP, with its PHASE notice, the time-up pending mark is clear, and no
record changes. -/
def Obligations.StopReturnsToSetup : Prop :=
  ∀ (s : State) (tag : Byte), ready s = true →
    (s.drill.mode = .setup → exec (.stop tag) s = .next (refusedWith .stop tag .mode s)) ∧
    (s.drill.mode = .drill → ∃ t, exec (.stop tag) s = .next t ∧
      t.drill = { s.drill with mode := .setup, phase := .noPhase, reason := .noReason,
                               queue := [], current := none, script := [], attempt := [] } ∧
      t.keys.fifo = [] ∧ t.lesson = { s.lesson with timeUp := false } ∧
      t.attn = { s.attn with running := false } ∧
      (∀ e ∈ t.speech.queue, e.cls.isSaid = true) ∧
      RaisesFirst s t [.phase .setup .noPhase .noReason none] ∧
      (atRest s = true → FlushedTo s t EntryClass.isSaid [.phase .setup .noPhase .noReason none]) ∧
      t.bank = s.bank ∧ t.judge = s.judge ∧ t.params = s.params) ∧
    (s.drill.mode = .free → s.drill.script = [] → ∃ t, exec (.stop tag) s = .next t ∧
      t.drill = { s.drill with mode := .setup, phase := .noPhase, reason := .noReason,
                               attempt := [] } ∧
      t.keys.fifo = [] ∧ (∀ e ∈ t.speech.queue, e.cls ≠ .echo ∧ e.cls ≠ .cue) ∧
      RaisesFirst s t [.phase .setup .noPhase .noReason s.drill.word] ∧
      (atRest s = true → FlushedTo s t (fun c => decide (c ≠ .echo ∧ c ≠ .cue))
        [.phase .setup .noPhase .noReason s.drill.word]) ∧
      t.lesson = { s.lesson with timeUp := false } ∧ t.bank = s.bank ∧ t.judge = s.judge ∧
      t.params = s.params)

/-- PAUSE, in a phase of a lesson under way, silences the drill and rests in PAUSED with reason
REQUEST, with its PHASE notice: before a judgement the word and what was typed are kept, after it
the outcome is settled. Host speech stays, in its order, and plays on; after a cut the player takes
the next. Elsewhere it is refused with MODE. -/
def Obligations.PauseKeepsOrSettles : Prop :=
  ∀ (s : State) (tag : Byte), ready s = true →
    (¬ (s.drill.mode = .drill ∧ s.drill.phase ∈
        [Phase.opening, .present, .listen, .feedback, .spellout]) →
      exec (.pause tag) s = .next (refusedWith .pause tag .mode s)) ∧
    (s.drill.mode = .drill → s.drill.phase ∈
        [Phase.opening, .present, .listen, .feedback, .spellout] →
      ∃ t, exec (.pause tag) s = .next t ∧ t.drill.mode = .drill ∧ t.drill.phase = .paused ∧
        t.drill.reason = .request ∧ t.drill.script = [] ∧ t.keys.fifo = [] ∧
        t.attn = { s.attn with running := false } ∧
        (∀ e ∈ t.speech.queue, e.cls.isSaid = true) ∧
        RaisesFirst s t [.phase .drill .paused .request t.drill.word] ∧
        (atRest s = true →
          FlushedTo s t EntryClass.isSaid [.phase .drill .paused .request t.drill.word]) ∧
        (s.drill.phase ∈ [Phase.opening, .present, .listen] →
          t.drill.current = s.drill.current ∧ t.drill.attempt = s.drill.attempt ∧
          t.drill.queue = s.drill.queue) ∧
        (s.drill.phase ∈ [Phase.feedback, .spellout] →
          t.drill.current = none ∧ t.drill.attempt = [] ∧ t.drill.queue = settledQueue s) ∧
        t.bank = s.bank ∧ t.judge = s.judge ∧ t.lesson = s.lesson ∧ t.params = s.params ∧
        t.link.reply = some { kind := 0xA5#8, tag := tag, payload := [0x00#8] })

/-- RESUME is refused outside PAUSED and FINISHED, and there by the reason or the phase as R82
says; from reason AUDIO it enters OPENING, and else PRESENT: a word held is presented again, its
try and its letters kept, with WELCOME_BACK first after an attention pause; with no word held it is
a word boundary, which takes the head of the DRILL QUEUE, or pauses for a time-up still pending, or
finishes the lesson; these two leave the ATTEMPT BUFFER as it stood (DEDUCED,
notes/assumptions/14.md). A presentation after WELCOME_BACK can have 17 entries (DEDUCED,
notes/assumptions/20.md). -/
def Obligations.ResumeByReason : Prop :=
  ∀ (s : State) (tag : Byte), ready s = true →
    (s.drill.mode ≠ .drill ∨ s.drill.phase ≠ .paused ∧ s.drill.phase ≠ .finished →
      exec (.resume tag) s = .next (refusedWith .resume tag .mode s)) ∧
    (s.drill.mode = .drill → s.drill.phase = .paused → s.drill.reason = .timeUp →
      0 < s.params.lessonLimit → s.params.lessonLimit * 60 ≤ s.lesson.seconds →
      exec (.resume tag) s = .next (refusedWith .resume tag .limit s)) ∧
    (s.drill.mode = .drill → s.drill.phase = .paused → s.drill.reason = .audio →
      s.out.tripped = true → exec (.resume tag) s = .next (refusedWith .resume tag .audio s)) ∧
    (s.drill.mode = .drill → s.drill.phase = .finished →
      (s.out.tripped = true ∨ s.out.load = .openLoad) →
      exec (.resume tag) s = .next (refusedWith .resume tag .audio s)) ∧
    (s.drill.mode = .drill → s.drill.phase = .finished → s.out.tripped = false →
      s.out.load ≠ .openLoad → s.drill.queue = [] →
      exec (.resume tag) s = .next (refusedWith .resume tag .mode s)) ∧
    (s.drill.mode = .drill → s.drill.phase = .paused → s.drill.reason = .audio →
      s.out.tripped = false → s.drill.script = [] → ∃ t, exec (.resume tag) s = .next t ∧
        t.drill = { s.drill with phase := .opening, reason := .noReason } ∧
        t.out.probe ≠ .idle ∧ (s.out.probe = .running → t.out.probe = .running ∧ t.out.oneMore = true ∧
          t.out.stale = true) ∧
        (s.out.probe ≠ .running → t.out.oneMore = s.out.oneMore ∧ t.out.stale = false ∧
          (s.speech.player = .idle → t.out.probe = .running ∧ t.speech.player = .held) ∧
          (∀ p, s.speech.player = .play p → t.out.probe = .requested)) ∧
        t.bank = s.bank ∧ t.lesson = s.lesson) ∧
    (∀ c r player, s.drill.mode = .drill → s.drill.phase = .paused →
      (s.drill.reason = .request ∨ s.drill.reason = .attention) → s.drill.current = some c →
      s.bank.slot c.word = some r → playerRests s = true →
      s.speech.queue.length + 2 ≤ Config.utterancePlaces →
      (∀ e ∈ s.speech.queue, e.scripted = false) →
      (if s.speech.player = .idle then nextPlayer s .idle
          [firstPrompt s.clips (decide (s.drill.reason = .attention)) r]
        else some s.speech.player) = some player →
      ∃ t, exec (.resume tag) s = .next t ∧
        Presents s t c r (decide (s.drill.reason = .attention)) player s.drill.queue
          s.drill.attempt) ∧
    (s.drill.mode = .drill → s.drill.current = none →
      (s.drill.phase = .paused ∧ (s.drill.reason = .request ∨ s.drill.reason = .attention ∨
          s.drill.reason = .timeUp ∧
            ¬ (0 < s.params.lessonLimit ∧ s.params.lessonLimit * 60 ≤ s.lesson.seconds)) ∨
        s.drill.phase = .finished ∧ s.out.tripped = false ∧ s.out.load ≠ .openLoad ∧
          s.drill.queue ≠ []) →
      (s.drill.queue = [] → s.drill.script = [] → ∃ t, exec (.resume tag) s = .next t ∧
        t.drill = { s.drill with phase := .finished, reason := .noReason } ∧
        t.bank = s.bank ∧ t.lesson = s.lesson) ∧
      (s.drill.queue ≠ [] → s.lesson.timeUp = true → ∃ t, exec (.resume tag) s = .next t ∧
        t.drill = { s.drill with phase := .paused, reason := .timeUp, script := [] } ∧
        t.keys.fifo = [] ∧ t.bank = s.bank ∧ t.lesson = s.lesson) ∧
      (∀ i rest r player, s.drill.queue = i :: rest → s.lesson.timeUp = false →
        s.bank.slot i = some r → playerRests s = true →
        s.speech.queue.length + 2 ≤ Config.utterancePlaces →
        (∀ e ∈ s.speech.queue, e.scripted = false) →
        (if s.speech.player = .idle then nextPlayer s .idle
            [firstPrompt s.clips false r]
          else some s.speech.player) = some player →
        ∃ t, exec (.resume tag) s = .next t ∧
          Presents s t (newWord i) r false player rest []))

/-- LESSON_LIMIT takes 0 to 240 minutes, clamping above, and sets or clears the time-up pending
mark; each full second counted raises the elapsed seconds, holding at 65535, and sets the mark when
the limit is reached. -/
def Obligations.LessonTimeIsLimited : Prop :=
  (∀ (s : State) (tag : Byte) (minutes : Word16), ready s = true →
    exec (.lessonLimit tag minutes) s = .next (answered (.lessonLimit minutes) tag
      [if minutes.toNat ≤ 240 then 0x00#8 else 0x01#8, byte (min 240 minutes.toNat), 0x00#8]
      { heard s with
        params := { s.params with lessonLimit := min 240 minutes.toNat }
        lesson := { s.lesson with timeUp := decide (0 < min 240 minutes.toNat ∧
          min 240 minutes.toNat * 60 ≤ s.lesson.seconds) } })) ∧
  (∀ s : State, s.drill.mode = .drill → s.power.power = .active →
    s.drill.phase ∈ [Phase.opening, .present, .listen, .feedback, .spellout] →
    exec .lessonSecond s = .next { s with lesson :=
      { seconds := min 65535 (s.lesson.seconds + 1), part := s.lesson.part - 1000
        timeUp := s.lesson.timeUp || decide (0 < s.params.lessonLimit ∧
          s.params.lessonLimit * 60 ≤ min 65535 (s.lesson.seconds + 1)) } })

/-! ## Keys -/

/-- KEYMAP replaces the whole map in SETUP when every entry is a code and each letter, GO and BACK
stands exactly once; KEYSETS replaces both sets unless a bit beyond the 42 codes is set. -/
def Obligations.KeymapAndKeysetsReplace : Prop :=
  ∀ (s : State) (tag : Byte), ready s = true →
    (∀ codes : List Byte, codes.length = 48 →
      (s.drill.mode ≠ .setup →
        exec (.keymap tag codes) s = .next (refusedWith (.keymap codes) tag .mode s)) ∧
      (∀ m : Vector KeyCode 48, s.drill.mode = .setup →
        codes.map KeyCode.ofByte = m.toList.map some →
        (∀ l : Letter, m.toList.count (.letter l) = 1) → m.toList.count .go = 1 →
        m.toList.count .back = 1 →
        exec (.keymap tag codes) s = .next (answeredOk (.keymap codes) tag
          { heard s with keys := { s.keys with keyMap := m } })) ∧
      (s.drill.mode = .setup → (∃ b ∈ codes, KeyCode.ofByte b = none) →
        exec (.keymap tag codes) s = .next (refusedWith (.keymap codes) tag .badArg s)) ∧
      (∀ (m : Vector KeyCode 48), s.drill.mode = .setup →
        codes.map KeyCode.ofByte = m.toList.map some →
        ((∃ l : Letter, m.toList.count (.letter l) ≠ 1) ∨ m.toList.count .go ≠ 1 ∨
          m.toList.count .back ≠ 1) →
        exec (.keymap tag codes) s = .next (refusedWith (.keymap codes) tag .badArg s))) ∧
    (∀ accept wake : BitVec 48,
      ((∃ n, 42 ≤ n ∧ n < 48 ∧ (accept.getLsbD n = true ∨ wake.getLsbD n = true)) →
        exec (.keysets tag accept wake) s =
          .next (refusedWith (.keysets accept wake) tag .badArg s)) ∧
      ((∀ n, 42 ≤ n → n < 48 → accept.getLsbD n = false ∧ wake.getLsbD n = false) →
        exec (.keysets tag accept wake) s = .next (answeredOk (.keysets accept wake) tag
          { heard s with keys := { s.keys with accept := accept.setWidth 42,
                                               wakeSet := wake.setWidth 42 } })))

/-- A full scan in ACTIVE applies the debounce test to all 48 positions, at a time 2 ms after the
scan before it (the model's scan clock, notes/assumptions/7.md); the first one after a reset or a
wake sets every level afresh, makes no event and enters lockout with three or more down. -/
def Obligations.KeyScansDebounce : Prop :=
  ∀ (s : State) (levels : BitVec 48), s.power.power = .active →
    (s.keys.firstScan = true → ∃ t, exec (.keyScan levels) s = .next t ∧
      (∀ i : Fin 48, t.keys.keys[i] = { down := levels.getLsbD i.val, timer := none }) ∧
      t.keys.downCount = ((List.range 48).filter fun i => levels.getLsbD i).length ∧
      t.keys.lockout = decide (3 ≤ t.keys.downCount) ∧ t.keys.firstScan = false ∧
      t.keys.fifo = s.keys.fifo ∧ t.drill = s.drill ∧ t.bank = s.bank ∧
      t.link.report = s.link.report) ∧
    (s.keys.firstScan = false → ∃ t, exec (.keyScan levels) s = .next t ∧
      t.keys.scanTime = s.keys.scanTime + 2 ∧ t.keys.keyMap = s.keys.keyMap ∧
      ∀ i : Fin 48, t.keys.keys[i] =
        if levels.getLsbD i.val = (s.keys.keys[i]).down then
          { s.keys.keys[i] with timer := none }
        else match (s.keys.keys[i]).timer with
          | none => { s.keys.keys[i] with timer := some (s.keys.scanTime + 2) }
          | some since =>
            if since + s.params.debounce ≤ s.keys.scanTime + 2 then
              { down := levels.getLsbD i.val, timer := none }
            else s.keys.keys[i])

/-- A full scan in LISTEN whose one accepted press is an accepted letter, with fewer than three
keys down and 15 letters or fewer held, appends that letter to the ATTEMPT BUFFER and changes
nothing else of the lesson; the ATTENTION TIMER starts again unless the letter is the last one
again. A scan's other presses: none in mash lockout makes anything; presses that bring the
down-count to three or more enter lockout as one MASH; a panel press raises a KEY notice in every
mode; a code not accepted makes nothing. In LISTEN a letter asks for its echo, BACK removes a
letter with a click, REPEAT and an empty GO place the word clip, and MASH is no engagement. In FREE
every event raises a KEY notice first, and a GO a LINE notice that empties the line. A GO in
FEEDBACK cuts or removes what is skippable, a GO in an attention pause resumes, and every other
event there and in SPELLOUT and FINISHED changes nothing. An echo takes the place of one that
waits, cuts one that plays, or stands at the tail of a queue with room. -/
def Obligations.LettersAreTyped : Prop :=
  (∀ (s : State) (levels : BitVec 48) (pos : Nat) (l : Letter) (c : Current) (r : WordRecord),
    s.power.power = .active → s.power.sleepPending = false → s.keys.firstScan = false →
    s.drill.mode = .drill → s.drill.phase = .listen → s.drill.current = some c →
    s.bank.slot c.word = some r → s.drill.script = [] → atRest s = true →
    s.drill.attempt.length < 16 →
    acceptedAt true (testAll s.params.debounce (s.keys.scanTime + 2) levels s.keys.keys) = [pos] →
    (scanReleases (testAll s.params.debounce (s.keys.scanTime + 2) levels s.keys.keys)
      s.keys).lockout = false →
    (scanReleases (testAll s.params.debounce (s.keys.scanTime + 2) levels s.keys.keys)
      s.keys).downCount ≤ 1 →
    codeAt s.keys pos = .letter l → s.keys.accept.getLsbD l.val = true →
    ∃ t, exec (.keyScan levels) s = .next t ∧
      t.drill = { s.drill with attempt := s.drill.attempt ++ [l] } ∧ t.bank = s.bank ∧
      t.judge = s.judge ∧ t.lesson = s.lesson ∧
      t.attn = (if s.attn.lastLetter = some l then s.attn
                else { s.attn with elapsed := 0, stage := 0, lastLetter := some l })) ∧
  (∀ (s : State) (levels : BitVec 48) (ts : Vector Tested 48) (k : KeyScanner) (presses : List Nat),
    s.power.power = .active → s.keys.firstScan = false → atRest s = true →
    ts = testAll s.params.debounce (s.keys.scanTime + 2) levels s.keys.keys →
    k = scanReleases ts s.keys → presses = acceptedAt true ts →
    k.downCount = s.keys.downCount - (acceptedAt false ts).length ∧
    (k.lockout = true ↔
      s.keys.lockout = true ∧ (acceptedAt false ts = [] ∨ k.downCount ≠ 0)) ∧
    (presses = [] ∨ k.lockout = true → exec (.keyScan levels) s = .next (transmit
      { s with keys := { k with downCount := k.downCount + presses.length } })) ∧
    (k.lockout = false → 3 ≤ k.downCount + presses.length → presses ≠ [] →
      ∃ t, exec (.keyScan levels) s = .next t ∧ t.keys.lockout = true ∧
        t.keys.downCount = k.downCount + presses.length ∧ t.drill = s.drill ∧ t.bank = s.bank ∧
        t.judge = s.judge ∧ t.attn = s.attn ∧
        (s.drill.mode = .setup → t.keys.fifo = s.keys.fifo ∧ t.speech = s.speech) ∧
        (s.drill.mode = .free → s.power.sleepPending = false → t.link.report =
          (offer s.link (.key .mash)).report) ∧
        (s.drill.mode = .drill → s.drill.phase = .opening ∨ s.drill.phase = .present →
          t.keys.fifo =
            (if s.keys.fifo.length < Config.fifoPlaces then s.keys.fifo ++ [.mash]
             else s.keys.fifo) ∧
          (Config.fifoPlaces ≤ s.keys.fifo.length → t.keys.overrun = true))) ∧
    (∀ pos, presses = [pos] → k.lockout = false → k.downCount ≤ 1 →
      (∀ p, codeAt s.keys pos = .panel p → inSet s.keys.accept (.panel p) = true →
        exec (.keyScan levels) s = .next (transmit { s with
          keys := { k with downCount := k.downCount + 1 }
          link := offer s.link (.key (.key (.panel p) pos)) })) ∧
      (inSet s.keys.accept (codeAt s.keys pos) = false →
        exec (.keyScan levels) s = .next (transmit { s with
          keys := { k with downCount := k.downCount + 1 } })))) ∧
  (∀ (w : Work) (c : Current) (r : WordRecord) (pos : Nat), w.st.drill.mode = .drill →
    w.st.drill.phase = .listen → w.st.drill.current = some c → w.st.bank.slot c.word = some r →
    (∀ l : Letter, (takeEvent (.key (.letter l) pos) w).st.speech =
      (if w.st.drill.attempt.length < 16 then
         (if w.st.params.echo = 1 then
            placeEcho { cueEntry w.st.clips (.letterName l) with cls := .echo } w
          else if w.st.params.echo = 2 then
            placeEcho { cueEntry w.st.clips (.letterSound l) with cls := .echo } w
          else w)
       else place (cueEntry w.st.clips .fullBuzz) w).st.speech) ∧
    (∀ l : Letter, 16 ≤ w.st.drill.attempt.length →
      (takeEvent (.key (.letter l) pos) w).st.drill = w.st.drill) ∧
    ((takeEvent (.key .back pos) w).st.drill =
        { w.st.drill with attempt := w.st.drill.attempt.dropLast } ∧
      (takeEvent (.key .back pos) w).st.speech =
        (if w.st.drill.attempt = [] then w else place (cueEntry w.st.clips .backClick) w).st.speech ∧
      (takeEvent (.key .back pos) w).st.attn = { w.st.attn with elapsed := 0, stage := 0 }) ∧
    ((takeEvent (.key .repeatWord pos) w).st =
      { w.st with
        speech := (place { cueEntry w.st.clips .oneKey with clip := r.wordClip, cls := .prompt }
          w).st.speech
        attn := { w.st.attn with elapsed := 0, stage := 0 } }) ∧
    (w.st.drill.attempt = [] →
      takeEvent (.key .go pos) w = takeEvent (.key .repeatWord pos) w) ∧
    (takeEvent .mash w).st =
      { w.st with speech := (place (cueEntry w.st.clips .oneKey) w).st.speech }) ∧
  (∀ (w : Work) (pos : Nat), w.st.drill.mode = .free →
    (∀ e, ∃ more, (takeEvent e w).raised = w.raised ++ .key e :: more) ∧
    (∀ l : Letter, (takeEvent (.key (.letter l) pos) w).st.drill = { w.st.drill with attempt :=
      (if w.st.drill.attempt.length < 16 then w.st.drill.attempt ++ [l]
       else w.st.drill.attempt) }) ∧
    (takeEvent (.key .back pos) w).st.drill =
      { w.st.drill with attempt := w.st.drill.attempt.dropLast } ∧
    takeEvent (.key .go pos) w =
      (if w.st.drill.attempt = [] then w.raise (.key (.key .go pos))
       else { st := { w.st with drill := { w.st.drill with attempt := [] } }
              raised := w.raised ++ [.key (.key .go pos), .line w.st.drill.attempt] }) ∧
    takeEvent (.key .hint pos) w = w.raise (.key (.key .hint pos)) ∧
    takeEvent (.key .repeatWord pos) w = w.raise (.key (.key .repeatWord pos)) ∧
    (takeEvent .mash w).st =
      { w.st with speech := (place (cueEntry w.st.clips .oneKey) w).st.speech }) ∧
  (∀ (w : Work) (e : KeyEvent), w.st.drill.mode = .drill →
    (w.st.drill.phase = .feedback → (∀ pos, e ≠ .key .go pos) → takeEvent e w = w) ∧
    (w.st.drill.phase = .spellout ∨ w.st.drill.phase = .finished → takeEvent e w = w) ∧
    (w.st.drill.phase = .paused →
      ((∀ pos, e ≠ .key .go pos) ∨ w.st.drill.reason ≠ .attention) → takeEvent e w = w) ∧
    (w.st.drill.phase = .paused → w.st.drill.reason = .attention → ∀ pos, e = .key .go pos →
      takeEvent e w = resumeDrill w) ∧
    (w.st.drill.phase = .feedback → ∀ pos, e = .key .go pos →
      (∀ x ∈ w.st.speech.queue, x.skippable = true → x.cls.isSaid = false) →
      (takeEvent e w).st.speech.queue = w.st.speech.queue.filter (fun x => !x.skippable) ∧
      (takeEvent e w).st.speech.player =
        (match w.st.speech.queue with
         | x :: _ => if w.st.speech.player.playing && x.skippable then .idle else w.st.speech.player
         | [] => w.st.speech.player) ∧
      (takeEvent e w).st.drill =
        { w.st.drill with script := w.st.drill.script.filter fun i => !i.skippable } ∧
      (takeEvent e w).st.bank = w.st.bank ∧ (takeEvent e w).st.judge = w.st.judge ∧
      (takeEvent e w).st.attn = w.st.attn ∧ (takeEvent e w).raised = w.raised)) ∧
  (∀ (w : Work) (e : Entry) (head waiting : List Entry), e.cls = .echo →
    w.st.speech.queue = head ++ waiting →
    (w.st.speech.player.playing = true → head.length = 1) →
    (w.st.speech.player.playing = false → head = []) →
    (∀ a x b, waiting = a ++ x :: b → x.cls = .echo → (∀ y ∈ a, y.cls ≠ .echo) →
      placeEcho e w = { w with st := { w.st with
        speech := { w.st.speech with queue := head ++ (a ++ e :: b) } } }) ∧
    ((∀ y ∈ waiting, y.cls ≠ .echo) →
      ((∃ x ∈ head, x.cls = .echo) →
        (placeEcho e w).st.speech = { queue := e :: waiting, player := .idle } ∧
        (placeEcho e w).raised = w.raised ∧ (placeEcho e w).st.drill = w.st.drill) ∧
      ((∀ x ∈ head, x.cls ≠ .echo) → placeEcho e w =
        (if w.st.speech.queue.length < 12 then { w with st := { w.st with
          speech := { w.st.speech with queue := w.st.speech.queue ++ [e] } } } else w))))

/-! ## Attention -/

/-- When the elapsed time has reached the next threshold: at stages 1 and 2 the nudge and the word
clip are placed as NUDGE entries, taken at once where nothing plays, ATTENTION is raised and the
lesson is left as it was; at stage 3 the timer stops and the drill pauses with reason ATTENTION,
everything of the word and host speech kept, ATTENTION raised before PHASE, and with ATTN_SLEEP 1
the part sleeps in the same event, its SPEECH_DONE notices last. Short of the
threshold no stage is reached. An entry of the drill is placed at the tail of a queue with room;
with 12 held the oldest waiting host entry gives way to a spoken one, its request's outcome
FLUSHED, and a CUE, or any entry with no host entry waiting, is dropped. That a threshold passed is
one reached, and that an entry which plays on past its request's last is marked FLUSHED, are DEDUCED
(notes/assumptions/26.md and 33.md). -/
def Obligations.AttentionStages : Prop :=
  (∀ (s : State) (c : Current) (r : WordRecord), attentionRuns s = true → s.attn.stage ≤ 1 →
    (s.attn.stage + 1) * s.params.attnPeriod * 1000 ≤ s.attn.elapsed →
    s.drill.mode = .drill → s.drill.phase = .listen → s.drill.current = some c →
    s.bank.slot c.word = some r → s.drill.script = [] → atRest s = true →
    ∃ t, exec .attentionNudge s = .next t ∧
      t.attn = { s.attn with stage := s.attn.stage + 1 } ∧
      t.drill = s.drill ∧ t.bank = s.bank ∧ t.lesson = s.lesson ∧
      ∃ n m : Entry, n.clip = roleClip s.clips (if s.attn.stage = 0 then .nudge1 else .nudge2) ∧
        m.clip = r.wordClip ∧ n.cls = .nudge ∧ m.cls = .nudge ∧ n.gap = 0 ∧ m.gap = 0 ∧
        n.skippable = false ∧ m.skippable = false ∧
        (s.speech.player ≠ .idle → s.speech.queue.length + 2 ≤ Config.utterancePlaces →
          t.speech = { s.speech with queue := s.speech.queue ++ [n, m] } ∧
          t.link.report =
            (offer s.link (.attention (s.attn.stage + 1) (some c.word) c.tryNo)).report) ∧
        (s.speech.player = .idle →
          (∀ p, playable s n.clip = some p →
            t.speech = { queue := [n, m], player := .play p }) ∧
          (∀ p, playable s n.clip = none → playable s m.clip = some p →
            t.speech = { queue := [m], player := .play p }) ∧
          (playable s n.clip = none → playable s m.clip = none →
            t.speech = { queue := [], player := .idle }) ∧
          t.link.report =
            (offer s.link (.attention (s.attn.stage + 1) (some c.word) c.tryNo)).report)) ∧
  (∀ s : State, attentionRuns s = true → s.attn.stage = 2 →
    4 * s.params.attnPeriod * 1000 ≤ s.attn.elapsed → s.drill.mode = .drill →
    s.drill.phase = .listen → s.power.sleepPending = false →
    ∃ t, exec .attentionPause s = .next t ∧
      t.drill = { s.drill with phase := .paused, reason := .attention, script := [] } ∧
      t.attn = { s.attn with stage := 3, running := false } ∧
      t.keys.fifo = [] ∧ t.bank = s.bank ∧ t.judge = s.judge ∧ t.lesson = s.lesson ∧
      (∀ e ∈ t.speech.queue, e.cls.isSaid = true) ∧
      (∀ notices : List Notice,
        notices = [.attention 3 s.drill.word ((s.drill.current.map (·.tryNo)).getD 0),
                   .phase .drill .paused .attention s.drill.word] →
        RaisesFirst s t notices ∧
        (s.params.attnSleep ≠ 1 → atRest s = true → FlushedTo s t EntryClass.isSaid notices)) ∧
      (s.params.attnSleep ≠ 1 → t.power = s.power) ∧
      (s.params.attnSleep = 1 → t.power.power = .sleep ∧ t.speech.queue = [])) ∧
  (∀ s : State, (s.attn.elapsed < (s.attn.stage + 1) * s.params.attnPeriod * 1000 →
      exec .attentionNudge s = .next s) ∧
    (s.attn.elapsed < 4 * s.params.attnPeriod * 1000 → exec .attentionPause s = .next s)) ∧
  (∀ (w : Work) (e : Entry), (e.cls = .prompt ∨ e.cls = .feedback ∨ e.cls = .nudge ∨ e.cls = .cue) →
    (w.st.speech.queue.length < 12 → place e w = { w with st := { w.st with
      speech := { w.st.speech with queue := w.st.speech.queue ++ [e] } } }) ∧
    (12 ≤ w.st.speech.queue.length → e.cls = .cue → place e w = w) ∧
    (12 ≤ w.st.speech.queue.length → e.cls ≠ .cue → ∀ head a : List Entry,
      (w.st.speech.player.playing = true → head.length = 1) →
      (w.st.speech.player.playing = false → head = []) → (∀ y ∈ a, y.cls.isSaid = false) →
      (w.st.speech.queue = head ++ a → place e w = w) ∧
      (∀ x b tag o, w.st.speech.queue = head ++ (a ++ x :: b) → x.cls = .said tag true o →
        place e w = { st := { w.st with speech := { w.st.speech with
            queue := head.map lastGone ++ (a ++ b ++ [e]) } },
                      raised := w.raised ++ [.speechDone tag .flushed] }) ∧
      (∀ x b z d tag tag' o, w.st.speech.queue = head ++ (a ++ x :: (b ++ z :: d)) →
        x.cls = .said tag false .played → z.cls = .said tag' true o →
        (∀ y ∈ b, ∀ g q, y.cls ≠ .said g true q) →
        place e w = { w with st := { w.st with speech := { w.st.speech with
            queue := head ++ (a ++ (b ++ { z with cls := .said tag' true .flushed } :: d) ++
              [e]) } } })))

/-! ## Speech and the clip store -/

/-- The end of a directory read: the first test of R124 that fails makes the state BAD with its
cause, count 0 and every role 0; with all passed it is OK with the count and the 70 role numbers
read. A CLIPS notice says which. The flash is known to hold what the read met (the model's choice,
notes/assumptions/11.md). -/
def Obligations.DirectoryReadsEnd : Prop :=
  ∀ (s : State) (bytes : List Byte), s.clips.dir = .reading →
    ∃ t, exec (.directoryReadDone bytes) s = .next t ∧
      (∀ result : Option DirFault,
        result = (
          if ¬ (flashByte bytes 0 = 0x5A#8 ∧ flashByte bytes 1 = 0x48#8 ∧
              flashByte bytes 2 = 0x43#8 ∧ flashByte bytes 3 = 0x53#8) then some .signature
          else if flashByte bytes 4 ≠ 1#8 then some .format
          else if flash16 bytes 5 = 0 ∨ 1023 < flash16 bytes 5 then some .count
          else if (((List.range 147).map fun a => (flashByte bytes a).toNat).sum +
              ((List.range (8 * flash16 bytes 5)).map fun a => (flashByte bytes (149 + a)).toNat).sum)
                % 65536 ≠ flash16 bytes 147 then some .check
          else none) →
        (∀ cause, result = some cause → t.clips.dir = .bad ∧ t.clips.count = 0 ∧
          (∀ i : Fin 70, t.clips.roles[i] = 0) ∧
          t.link.report = (offer s.link (.clips .bad 0 (some cause))).report) ∧
        (result = none → t.clips.dir = .ok ∧ t.clips.count = flash16 bytes 5 ∧
          (∀ i : Fin 70, t.clips.roles[i] = flash16 bytes (7 + 2 * i.val)) ∧
          t.link.report = (offer s.link (.clips .ok (flash16 bytes 5) none)).report)) ∧
      t.drill = s.drill ∧ t.bank = s.bank ∧ t.speech = s.speech ∧ t.out = s.out ∧ t.flash = bytes

/-- SAY answers the first check of R135 that fails; else one SAID entry per clip joins the tail in
order, each with the gap given and the tag, and the last marked last with outcome PLAYED. -/
def Obligations.SayQueuesOrRefuses : Prop :=
  ∀ (s : State) (tag gap : Byte) (l : List Word16), ready s = true → l.length ≤ 8 →
    let bad := l = [] ∨ (∃ c ∈ l, c.toNat = 0 ∨ 1023 < c.toNat) ∨ 200 < gap.toNat
    (bad → exec (.say tag gap l) s = .next (refusedWith (.say gap l) tag .badArg s)) ∧
    (¬ bad → s.clips.dir ≠ .ok →
      exec (.say tag gap l) s = .next (refusedWith (.say gap l) tag .clips s)) ∧
    (¬ bad → s.clips.dir = .ok → (∃ c ∈ l, s.clips.count < c.toNat) →
      exec (.say tag gap l) s = .next (refusedWith (.say gap l) tag .badArg s)) ∧
    (¬ bad → s.clips.dir = .ok → (∀ c ∈ l, c.toNat ≤ s.clips.count) →
      (s.out.load = .openLoad ∨ s.out.tripped = true) →
      exec (.say tag gap l) s = .next (refusedWith (.say gap l) tag .audio s)) ∧
    (¬ bad → s.clips.dir = .ok → (∀ c ∈ l, c.toNat ≤ s.clips.count) →
      s.out.load ≠ .openLoad → s.out.tripped = false →
      12 < s.speech.queue.length + l.length →
      exec (.say tag gap l) s = .next (refusedWith (.say gap l) tag .full s)) ∧
    (¬ bad → s.clips.dir = .ok → (∀ c ∈ l, c.toNat ≤ s.clips.count) →
      s.out.load ≠ .openLoad → s.out.tripped = false →
      s.speech.queue.length + l.length ≤ 12 → atRest s = true →
      ∃ said : List Entry, said.map (·.clip) = l.map (·.toNat) ∧
        (∀ (i : Nat) (e : Entry), said[i]? = some e →
          e.cls = .said tag (decide (i + 1 = l.length)) .played ∧ e.gap = 10 * gap.toNat ∧
          e.skippable = false ∧ e.scripted = false) ∧
        (s.speech.player ≠ .idle → exec (.say tag gap l) s = .next (answeredOk (.say gap l) tag
          { heard s with speech := { s.speech with queue := s.speech.queue ++ said } })) ∧
        (s.speech.player = .idle → gap.toNat ≠ 0 →
          exec (.say tag gap l) s = .next (answeredOk (.say gap l) tag
            { heard s with speech := { queue := s.speech.queue ++ said, player := .gap 0 } })) ∧
        (∀ e es p, s.speech.player = .idle → gap.toNat = 0 → said = e :: es →
          playable s e.clip = some p →
          ∃ t, exec (.say tag gap l) s = .next t ∧ t.speech.queue = s.speech.queue ++ said ∧
            t.speech.player = .play p ∧ t.drill = s.drill ∧ t.bank = s.bank))

/-- HUSH leaves no host speech in the UTTERANCE QUEUE and answers how many entries it removed or
cut; with none there it changes nothing. Every other entry stays, in its order, and a playing one
plays on; after a cut the player takes the next. SPEECH_DONE is raised for each request whose last
entry is removed, FLUSHED, or cut, CUT where nothing of it was refused or removed before. That host
speech stands apart from the scripts is kept by every step (LessonOkKept). -/
def Obligations.HushRemovesHostSpeech : Prop :=
  ∀ (s : State) (tag : Byte), ready s = true → HostSpeechApart s →
    ((∀ e ∈ s.speech.queue, e.cls.isSaid = false) →
      exec (.hush tag) s = .next (answered .hush tag [0x00#8, 0x00#8] (heard s))) ∧
    ∃ t, exec (.hush tag) s = .next t ∧ (∀ e ∈ t.speech.queue, e.cls.isSaid = false) ∧
      t.link.reply = some { kind := 0xC1#8, tag := tag, payload :=
        [0x00#8, byte (s.speech.queue.filter fun e => e.cls.isSaid).length] } ∧
      (atRest s = true → s.speech.player ≠ .idle →
        (s.speech.player.playing = true → ∀ e es, s.speech.queue = e :: es →
          e.cls.isSaid = false) →
        t.speech = { s.speech with queue := s.speech.queue.filter fun e => !e.cls.isSaid } ∧
        t.drill = s.drill ∧ t.bank = s.bank ∧
        t.link.report = ((s.speech.queue.filterMap flushedDone).foldl offer s.link).report) ∧
      (∀ e es player, atRest s = true → s.speech.player.playing = true →
        s.speech.queue = e :: es → e.cls.isSaid = true →
        nextPlayer s s.out.probe (es.filter fun x => !x.cls.isSaid) = some player →
        t.speech = { queue := es.filter fun x => !x.cls.isSaid, player := player } ∧
        t.drill = s.drill ∧ t.bank = s.bank ∧
        t.link.report =
          ((cutDone s.speech.player e ++ es.filterMap flushedDone).foldl offer s.link).report)

/-- RELOAD_CLIPS begins a directory read in SETUP with nothing to play, and is refused with MODE
elsewhere; GUARD_CLEAR clears the guard and r and asks for a probe, which runs at once with the
player between entries, and is refused with BUSY while a probe runs. -/
def Obligations.ReloadAndGuardClear : Prop :=
  ∀ (s : State) (tag : Byte), ready s = true →
    (s.drill.mode = .setup → (s.clips.dir = .ok ∨ s.clips.dir = .bad) → s.speech.queue = [] →
      (s.speech.player = .idle ∨ s.speech.player = .held) → ∃ t,
      exec (.reloadClips tag) s = .next (answeredOk .reloadClips tag t) ∧
      t = { heard s with clips := t.clips } ∧ t.clips.dir = .reading ∧ t.clips.count = 0 ∧
      (∀ i : Fin 70, t.clips.roles[i] = 0)) ∧
    ((s.drill.mode ≠ .setup ∨ s.clips.dir = .reading ∨ s.clips.dir = .unread ∨
        s.speech.queue ≠ []) →
      exec (.reloadClips tag) s = .next (refusedWith .reloadClips tag .mode s)) ∧
    (s.out.probe = .running →
      exec (.guardClear tag) s = .next (refusedWith .guardClear tag .busy s)) ∧
    (s.out.probe ≠ .running → s.speech.player ≠ .idle → atRest s = true →
      exec (.guardClear tag) s = .next (answeredOk .guardClear tag
        { heard s with out := { s.out with tripped := false, trimDown := 0,
                                           probe := .requested } })) ∧
    (s.out.probe ≠ .running → s.speech.player = .idle → atRest s = true →
      exec (.guardClear tag) s = .next (answeredOk .guardClear tag
        { heard s with out := { s.out with tripped := false, trimDown := 0, probe := .running,
                                           stale := false }
                       speech := { s.speech with player := .held } }))

/-- At the end of its gap the head entry enters PLAY: a clip that can be played starts, its samples
read from its start address on, in one transfer that begins with PLAY (the model's choice,
notes/assumptions/34.md), with the clipped mark clear and the surge count 0; host speech that cannot
be played gives way to NOT_NOW in its place; an entry of the drill that cannot leaves at once, with
no close for the OUTPUT STAGE, and the player goes on with the entry behind it, in FREE and in every
phase that does not wait on it; the last prompt of a presentation ends it so, and LISTEN begins. A
clip can be played exactly when its number is 1 to the clip count and its directory entry, read from
the flash as the flash stands (its content in State is the model's choice, notes/assumptions/11.md),
has coding PCM8 or PCM16, a sample count above 0, a trim from -6 to 3, and samples that end by
address 16777215. -/
def Obligations.GapsEndInPlay : Prop :=
  (∀ (s : State) (n : Nat), ∃ (b : Nat → Byte) (start count : Nat) (trim : Int),
    (∀ i, b i = flashByte s.flash (149 + 8 * (n - 1) + i)) ∧
    start = (b 0).toNat + 256 * (b 1).toNat + 65536 * (b 2).toNat ∧
    count = (b 3).toNat + 256 * (b 4).toNat + 65536 * ((b 5).toNat % 16) ∧
    trim = (b 7).toInt ∧ (readEntry s.flash n).start = start ∧
    ∀ p : Playing, playable s n = some p ↔
      1 ≤ n ∧ n ≤ s.clips.count ∧ 0 < count ∧ -6 ≤ trim ∧ trim ≤ 3 ∧
      (b 6 = 0x00#8 ∧ start + count ≤ 16777216 ∧
          p = { clip := n, coding := .pcm8, trim := trim, count := count, handed := 0,
                refused := false } ∨
        b 6 = 0x01#8 ∧ start + 2 * count ≤ 16777216 ∧
          p = { clip := n, coding := .pcm16, trim := trim, count := count, handed := 0,
                refused := false })) ∧
  (∀ (s : State) (ms : Nat) (e : Entry) (es : List Entry), s.speech.player = .gap ms →
    s.speech.queue = e :: es → atRest s = true →
    (∀ p, playable s e.clip = some p →
      exec .gapEnd s = .next (transmit { s with
        speech := { s.speech with player := .play p }
        out := { s.out with clipped := false, surges := 0 }
        clips := { s.clips with
          spi := some (readCommand (readEntry s.flash e.clip).start) } })) ∧
    (∀ p, playable s e.clip = none → e.cls.isSaid = true →
      playable s (roleClip s.clips .notNow) = some p →
      ∃ t, exec .gapEnd s = .next t ∧ t.speech.queue = s.speech.queue ∧
        t.speech.player = .play { p with refused := true } ∧ t.out.clipped = false ∧
        t.clips.spi = some (readCommand
          (readEntry s.flash (roleClip s.clips .notNow)).start)) ∧
    (∀ player, playable s e.clip = none → e.cls.isSaid = false → s.drill.script = [] →
      stillSpeaks s.drill.phase es = true → nextPlayer s s.out.probe es = some player →
      ∃ t, exec .gapEnd s = .next t ∧ t.speech = { queue := es, player := player } ∧
        t.drill = s.drill ∧ t.bank = s.bank ∧ t.link.report = s.link.report ∧
        t.out.clipCount = s.out.clipCount ∧ t.out.trimDown = s.out.trimDown) ∧
    (playable s e.clip = none → s.drill.mode = .drill → s.drill.phase = .present →
      e.cls = .prompt → es = [] → s.drill.script = [] → s.keys.fifo = [] →
      ∃ t, exec .gapEnd s = .next t ∧ t.speech = { queue := [], player :=
          if s.out.probe = .requested then .held else .idle } ∧
        t.drill = { s.drill with phase := .listen, reason := .noReason } ∧
        t.attn = { elapsed := 0, stage := 0, lastLetter := none, running := true } ∧
        t.out.clipCount = s.out.clipCount ∧ t.out.trimDown = s.out.trimDown))

/-! ## Output -/

/-- The effective step is 0 with VOLUME 0, the guard tripped or the load OPEN; else it is VOLUME or
the cap, whichever is less, less r, and at least 1. It never exceeds a cap of at least 1. The
multiplier of each index from 1 to 34 is 4096 times 10 to the power (k − 31) / 10, rounded to the
nearest whole number: m − 1/2 and m + 1/2, raised to the tenth power, lie on its two sides. -/
def Obligations.StepsAndMultipliers : Prop :=
  (∀ (p : Params) (o : OutputStage),
     ((p.volume = 0 ∨ o.tripped = true ∨ o.load = .openLoad) → effectiveStep p o = 0) ∧
     (∀ cap, p.volume ≠ 0 → o.tripped = false →
       (o.load = .speaker ∧ cap = p.capSpeaker ∨ o.load = .phones ∧ cap = p.capPhones) →
       effectiveStep p o = max 1 (min p.volume cap - o.trimDown) ∧
       (1 ≤ cap → effectiveStep p o ≤ cap))) ∧
  ((∀ k, 1 ≤ k → k ≤ 31 →
     (2 * multiplier k - 1) ^ 10 * 10 ^ (31 - k) ≤ 8192 ^ 10 ∧
     8192 ^ 10 < (2 * multiplier k + 1) ^ 10 * 10 ^ (31 - k)) ∧
   (∀ k, 31 ≤ k → k ≤ 34 →
     (2 * multiplier k - 1) ^ 10 ≤ 8192 ^ 10 * 10 ^ (k - 31) ∧
     8192 ^ 10 * 10 ^ (k - 31) < (2 * multiplier k + 1) ^ 10))

/-- A sample of the playing clip, while it has samples left, its value that of the flash bytes read
(a PCM8 byte times 256, a PCM16 pair with the least significant byte first): silence at step 0,
else the product with the multiplier of step plus trim, within 1 to 34, rounded to the nearest and
saturated to 16 bits, which sets the clipped mark. Nothing else changes. -/
def Obligations.SamplesAreScaled : Prop :=
  ∀ (s : State) (p : Playing) (miso : SampleBytes), s.speech.player = .play p → p.handed < p.count →
    ∃ (x y q : Int) (k : Nat) (saturated : Bool),
      x = (match p.coding with
        | .pcm8 => miso.first.toInt * 256
        | .pcm16 => (miso.first.toNat : Int) + 256 * miso.second.toInt) ∧
      (k : Int) = max 1 (min 34 ((effectiveStep s.params s.out : Int) + p.trim)) ∧
      4096 * q ≤ x * (multiplier k : Int) + 2048 ∧ x * (multiplier k : Int) + 2048 < 4096 * (q + 1) ∧
      (effectiveStep s.params s.out = 0 → y = 0 ∧ saturated = false) ∧
      (effectiveStep s.params s.out ≠ 0 →
        y = max (-32768) (min 32767 q) ∧ (saturated = true ↔ 32767 < q ∨ q < -32768)) ∧
      exec (.sampleOut miso) s = .next { s with
        speech := { s.speech with player := .play { p with handed := p.handed + 1 } }
        out := { s.out with aout := some y, clipped := s.out.clipped || saturated } }

/-- When a playing entry's samples have all been handed over it ends, and not before: a set clipped
mark raises the clip counter, or at 127 sets its overflow mark, and with AUTO_TRIM 1 raises r, to 8
at most; a clear mark changes neither. The entry leaves the queue and the player takes the next, or
is HELD by a requested probe, or IDLE; the last entry of a host request raises SPEECH_DONE with its
outcome, FLUSHED where it was refused its turn, and one refused before the last leaves that outcome
with the last. A phase whose speech is over ends: PRESENT in LISTEN with the ATTENTION TIMER afresh;
FEEDBACK after a wrong attempt in a retry; else the word is settled and a word boundary takes the
head of the DRILL QUEUE, with the whole presentation as its script, pauses for a time-up, or
finishes the lesson; these two leave the ATTEMPT BUFFER as it stood (DEDUCED,
notes/assumptions/14.md). -/
def Obligations.ClippedEntriesAreCounted : Prop :=
  (∀ (s : State) (p : Playing) (e : Entry) (es : List Entry), s.speech.player = .play p →
    s.speech.queue = e :: es →
    (p.handed < p.count → exec .entryEnd s = .next s) ∧
    (p.count ≤ p.handed → ∃ t, exec .entryEnd s = .next t ∧
      t.out.clipCount =
        (if s.out.clipped ∧ s.out.clipCount < 127 then s.out.clipCount + 1
         else s.out.clipCount) ∧
      t.out.clipOverflow =
        (s.out.clipOverflow || (s.out.clipped && decide (¬ s.out.clipCount < 127))) ∧
      t.out.trimDown =
        (if s.out.clipped ∧ s.params.autoTrim = 1 then min 8 (s.out.trimDown + 1)
         else s.out.trimDown) ∧
      t.out.load = s.out.load ∧ t.out.tripped = s.out.tripped ∧ t.params = s.params ∧
      (∀ player, s.drill.script = [] → s.keys.fifo = [] → stillSpeaks s.drill.phase es = true →
        nextPlayer s s.out.probe es = some player →
        t.speech.player = player ∧ t.drill = s.drill ∧ t.bank = s.bank ∧
        (e.cls.isSaid = false → t.speech.queue = es ∧ t.link.report = s.link.report) ∧
        (∀ tag o, e.cls = .said tag true o → t.speech.queue = es ∧ t.link.report =
          (offer s.link (.speechDone tag (if p.refused then .flushed else o))).report) ∧
        (∀ tag a z d tag' o, e.cls = .said tag false .played → es = a ++ z :: d →
          z.cls = .said tag' true o → (∀ y ∈ a, ∀ g q, y.cls ≠ .said g true q) →
          t.speech.queue = (if p.refused then
              a ++ { z with cls := .said tag' true .flushed } :: d else es) ∧
            t.link.report = s.link.report)) ∧
      (s.drill.mode = .drill → s.drill.phase = .present → e.cls = .prompt → es = [] →
        s.drill.script = [] → s.keys.fifo = [] →
        t.speech = { queue := [], player :=
          if s.out.probe = .requested then .held else .idle } ∧
        t.drill = { s.drill with phase := .listen, reason := .noReason } ∧
        t.attn = { elapsed := 0, stage := 0, lastLetter := none, running := true } ∧
        t.link.report = (offer s.link (.phase .drill .listen .noReason s.drill.word)).report))) ∧
  (∀ w : Work,
    (w.st.drill.phase = .present → endPhase w =
      { st := { w.st with
          drill := { w.st.drill with phase := .listen, reason := .noReason }
          attn := { elapsed := 0, stage := 0, lastLetter := none, running := true } }
        raised := w.raised ++ [.phase w.st.drill.mode .listen .noReason w.st.drill.word] }) ∧
    (∀ c, w.st.drill.phase = .feedback → w.st.drill.current = some c →
      c.lastVerdict = some .wrong → endPhase w =
        { st := { w.st with drill := { w.st.drill with
            phase := .present, reason := .noReason, attempt := [], script := []
            current := some { c with tryNo := c.tryNo + 1 } } }
          raised := w.raised ++ [.phase w.st.drill.mode .present .noReason (some c.word)] }) ∧
    ((w.st.drill.phase = .spellout ∨ w.st.drill.phase = .feedback ∧
        ∀ c, w.st.drill.current = some c → c.lastVerdict ≠ some .wrong) →
      w.st.speech.queue.length < 12 →
      (settledQueue w.st = [] → endPhase w =
        { st := { w.st with
            drill := { w.st.drill with phase := .finished, reason := .noReason, current := none,
                                       queue := [] }
            speech := { w.st.speech with queue := w.st.speech.queue ++
              [{ cueEntry w.st.clips .allDone with cls := .feedback }] } }
          raised := w.raised ++ [.phase w.st.drill.mode .finished .noReason none] }) ∧
      (∀ i rest, settledQueue w.st = i :: rest → w.st.lesson.timeUp = true →
        (endPhase w).st.drill = { w.st.drill with
          phase := .paused, reason := .timeUp, current := none, queue := i :: rest, script := [] } ∧
        (endPhase w).st.speech.queue.getLast? =
          some { cueEntry w.st.clips .timeUpBye with cls := .feedback } ∧
        (endPhase w).st.lesson = w.st.lesson ∧ (endPhase w).st.keys.fifo = []) ∧
      (∀ i rest r, settledQueue w.st = i :: rest → w.st.lesson.timeUp = false →
        w.st.bank.slot i = some r →
          endPhase w =
            { st := { w.st with drill := { w.st.drill with
                phase := .present, reason := .noReason, queue := rest, attempt := []
                script := presentationItems w.st.params 1 false r
                current := some { newWord i with
                  spelledOut := decide (r.standing = .struggling) } } }
              raised := w.raised ++ [.phase w.st.drill.mode .present .noReason (some i)] })))

/-- An accepted JACK change sets the JACK state and asks for a probe, which runs at once with the
player between entries; a request during a probe sets the one-more mark. -/
def Obligations.JackChangesAskForAProbe : Prop :=
  ∀ (s : State) (jack : Jack), s.power.power = .active → jack ≠ s.out.jack → atRest s = true →
    ∃ t, exec (.jackChange jack) s = .next t ∧ t.out.jack = jack ∧ t.out.load = s.out.load ∧
      t.drill = s.drill ∧ t.bank = s.bank ∧ t.speech.queue = s.speech.queue ∧
      (s.out.probe = .running → t.out.probe = .running ∧ t.out.oneMore = true ∧
        t.speech = s.speech) ∧
      (s.out.probe ≠ .running → s.speech.player = .idle →
        t.out.probe = .running ∧ t.speech.player = .held ∧ t.out.oneMore = s.out.oneMore) ∧
      (s.out.probe ≠ .running → s.speech.player ≠ .idle →
        t.out.probe = .requested ∧ t.speech = s.speech ∧ t.out.oneMore = s.out.oneMore)

/-- The end of a probe, its operand the resistance found in milliohms (the model's unit,
notes/assumptions/22.md): the load kind takes the result, r is 0 where it differs, LOAD is raised
first, with the kinds before and after and the JACK state; the probe runs again with the one-more
mark and else is IDLE. An OPEN result pauses a lesson that it meets, with reason AUDIO. A SPEAKER or
PHONES result of a probe that OPENING waits on ends OPENING: the word held is presented again, or a
word boundary takes the head of the DRILL QUEUE, pauses for a time-up, or finishes the lesson; these
two leave the ATTEMPT BUFFER as it stood (DEDUCED, notes/assumptions/14.md). -/
def Obligations.ProbeResultsReachTheDrill : Prop :=
  ∀ (s : State) (m : Nat), s.out.probe = .running → s.speech.player = .held →
    ∃ (t : State) (load : Load), exec (.loadProbeDone m) s = .next t ∧
      load = (if m < 2000 then .openLoad else if m < 12000 then .speaker
              else if m ≤ 1000000 then .phones else .openLoad) ∧
      t.out.load = load ∧ t.out.jack = s.out.jack ∧
      t.out.trimDown = (if load = s.out.load then s.out.trimDown else 0) ∧
      t.out.probe = (if s.out.oneMore then .running else .idle) ∧ t.out.oneMore = false ∧
      (s.out.oneMore = true → t.speech.player = .held) ∧
      (∃ more : List Notice, t.link.report =
        ((Notice.load s.out.load load s.out.jack :: more).foldl offer s.link).report) ∧
      (s.drill.mode = .setup → s.speech.queue = [] → s.drill.phase = .noPhase →
        s.drill.script = [] → t.drill = s.drill ∧
        t.link.report = (offer s.link (.load s.out.load load s.out.jack)).report) ∧
      (load = .openLoad → s.drill.phase.underWay = true →
        (s.drill.phase = .opening → s.out.stale = false) →
        t.drill.phase = .paused ∧ t.drill.reason = .audio) ∧
      (load = .openLoad → s.drill.phase = .paused →
        s.drill.script = [] → s.keys.fifo = [] →
        t.drill = { s.drill with reason := .audio }) ∧
      (s.drill.mode = .drill → s.drill.phase = .opening → s.out.stale = true →
        s.drill.script = [] → t.drill = s.drill) ∧
      (s.drill.mode = .drill → s.drill.phase = .opening → s.out.stale = false →
        load ≠ .openLoad →
        (∀ c r player, s.drill.current = some c → s.bank.slot c.word = some r →
          s.speech.queue.length + 2 ≤ Config.utterancePlaces →
          (∀ e ∈ s.speech.queue, e.scripted = false) →
          (if s.out.oneMore then some .held
            else nextPlayer s .idle (s.speech.queue ++ [firstPrompt s.clips false r])) =
              some player →
          Presents s t c r false player s.drill.queue s.drill.attempt) ∧
        (s.drill.current = none → s.drill.queue = [] → s.drill.script = [] →
          t.drill = { s.drill with phase := .finished, reason := .noReason }) ∧
        (s.drill.current = none → s.drill.queue ≠ [] → s.lesson.timeUp = true →
          t.drill = { s.drill with phase := .paused, reason := .timeUp, script := [] }) ∧
        (∀ i rest r player, s.drill.current = none → s.drill.queue = i :: rest →
          s.lesson.timeUp = false → s.bank.slot i = some r →
          s.speech.queue.length + 2 ≤ Config.utterancePlaces →
          (∀ e ∈ s.speech.queue, e.scripted = false) →
          (if s.out.oneMore then some .held
            else nextPlayer s .idle (s.speech.queue ++ [firstPrompt s.clips false r])) =
              some player →
          Presents s t (newWord i) r false player rest []))

/-- A surge event in audible play is counted; with the limit reached, or passed where it was written
lower (DEDUCED, notes/assumptions/26.md), REDUCE raises r by 3, to 8 at most, with a GUARD notice,
while r is below 8; else the guard trips: silence, nothing left to play, and a lesson under way
pauses with reason AUDIO; in PAUSED the reason becomes AUDIO, and in FINISHED and outside a lesson
the drill stays. The notices are GUARD, the SPEECH_DONE of each request removed or cut, and PHASE
where phase or reason changes. At other times the event is not counted. -/
def Obligations.SurgesReduceOrTrip : Prop :=
  (∀ s : State, ((∀ p, s.speech.player ≠ .play p) ∨ s.out.tripped = true ∨
      effectiveStep s.params s.out = 0) → exec .surgeEvent s = .next s) ∧
  (∀ (s : State) (p : Playing), s.speech.player = .play p → s.out.tripped = false →
    1 ≤ effectiveStep s.params s.out →
    (s.out.surges + 1 < s.params.surgeLimit →
      exec .surgeEvent s = .next { s with out := { s.out with surges := s.out.surges + 1 } }) ∧
    (s.params.surgeLimit ≤ s.out.surges + 1 → s.params.surgeAction = 1 → s.out.trimDown < 8 →
      exec .surgeEvent s = .next (transmit { s with
        out := { s.out with surges := 0, trimDown := min 8 (s.out.trimDown + 3) }
        link := offer s.link (.guard false (min 8 (s.out.trimDown + 3)) p.clip) })) ∧
    (s.params.surgeLimit ≤ s.out.surges + 1 →
      (s.params.surgeAction ≠ 1 ∨ ¬ s.out.trimDown < 8) → ∀ notices : List Notice,
      notices = .guard true s.out.trimDown p.clip :: (match s.speech.queue with
        | e :: es => cutDone s.speech.player e ++ es.filterMap flushedDone
        | [] => []) →
      (s.drill.phase.underWay = true →
        ∃ t, exec .surgeEvent s = .next t ∧ t.out.tripped = true ∧
          effectiveStep t.params t.out = 0 ∧ t.speech.queue = [] ∧ t.drill.phase = .paused ∧
          t.drill.reason = .audio ∧ t.keys.fifo = [] ∧ t.bank = s.bank ∧ t.judge = s.judge ∧
          t.link.report = ((notices ++ [Notice.phase s.drill.mode .paused .audio t.drill.word]).foldl
            offer s.link).report) ∧
      (s.drill.phase.underWay = false → s.drill.script = [] → s.keys.fifo = [] →
        ∃ t, exec .surgeEvent s = .next t ∧ t.out.tripped = true ∧
          effectiveStep t.params t.out = 0 ∧ t.speech.queue = [] ∧
          t.drill = (if s.drill.phase = .paused then { s.drill with reason := .audio }
                     else s.drill) ∧
          t.bank = s.bank ∧ t.judge = s.judge ∧
          t.link.report = ((notices ++
            (if s.drill.phase = .paused ∧ s.drill.reason ≠ .audio then
              [Notice.phase s.drill.mode .paused .audio s.drill.word] else [])).foldl
            offer s.link).report)))

/-! ## Sleep and wake -/

/-- When a SLEEP reply has left, the part enters SLEEP: nothing left to play, no probe, no key
event, no debounce timer, a read abandoned; the lesson, the records and the parameters are kept.
Bytes held in the receive buffer wake it at once with reason LINK. -/
def Obligations.SleepIsEntered : Prop :=
  ∀ (s : State) (f : Sending), s.link.tx = some f → f.isReply = true →
    s.power.sleepPending = true → ∃ t, exec .txFrameDone s = .next t ∧
      t.power.power = .sleep ∧ t.power.sleepPending = false ∧ t.speech.queue = [] ∧
      t.speech.player = .idle ∧ t.out.probe = .idle ∧ t.out.oneMore = false ∧
      t.out.load = s.out.load ∧ t.out.tripped = s.out.tripped ∧ t.keys.fifo = [] ∧
      t.keys.overrun = s.keys.overrun ∧ t.keys.downCount = 0 ∧ t.keys.lockout = false ∧
      (∀ i : Fin 48, t.keys.keys[i] = { s.keys.keys[i] with timer := none }) ∧
      (s.clips.dir = .reading → t.clips.dir = .unread ∧ t.clips.count = 0) ∧
      (s.clips.dir ≠ .reading → t.clips.dir = s.clips.dir ∧ t.clips.count = s.clips.count ∧
        t.clips.roles = s.clips.roles) ∧
      t.drill = s.drill ∧ t.bank = s.bank ∧ t.judge = s.judge ∧ t.params = s.params ∧
      t.lesson = s.lesson ∧ t.attn = s.attn ∧ t.link.frames = [] ∧ t.link.reply = none ∧
      t.link.tx = none ∧
      (s.link.frames ≠ [] ∨ (∃ bs, s.link.rx = .frame bs) →
        t.power.settle = true ∧ t.power.wakeReason = .link) ∧
      (s.link.frames = [] → s.link.rx = .hunt →
        t.power.settle = false ∧ t.power.wakeReason = s.power.wakeReason ∧ t.link.rx = .hunt)

/-- In SLEEP an accepted press of a watched position wakes the part with reason KEY, the lowest one
recorded, and types nothing; positions whose code is not in the wake set are not scanned; a start
byte wakes the part with reason LINK and any other byte is discarded. -/
def Obligations.KeysAndFramesWake : Prop :=
  ∀ s : State, s.power.power = .sleep → s.power.settle = false →
    (∀ levels : BitVec 48, ∃ t, exec (.slowKeyScan levels) s = .next t ∧
      (∀ i : Fin 48, inSet s.keys.wakeSet (codeAt s.keys i.val) = false →
        t.keys.keys[i] = s.keys.keys[i]) ∧
      (acceptedAt true (slowTests s.params.debounce (s.keys.scanTime + 32) levels s.keys) = [] →
        t.power = s.power) ∧
      (∀ pos more,
        acceptedAt true (slowTests s.params.debounce (s.keys.scanTime + 32) levels s.keys) =
          pos :: more →
        t.power = { s.power with settle := true, wakeReason := .key,
                                 wakeKey := some (codeAt s.keys pos, pos) } ∧
        ∀ p ∈ more, pos < p) ∧
      t.keys.fifo = s.keys.fifo ∧ t.drill = s.drill ∧ t.link = s.link ∧ t.bank = s.bank) ∧
    (s.link.rx = .hunt →
      exec (.rxByte 0xA5#8) s = .next { s with
        link := { s.link with silence := 0, rx := .wakeLength }
        power := { s.power with settle := true, wakeReason := .link, wakeKey := none } }) ∧
    (∀ b, s.link.rx = .hunt → b ≠ 0xA5#8 → exec (.rxByte b) s = .next (heard s))

/-- The end of the wake settle: ACTIVE with full scanning to start afresh, the JACK level taken,
the probe of the wake running with the player held, the slept-since-status mark set and WAKE
raised; a key that wakes the part out of an attention pause brings back the word, WELCOME_BACK first
and PHASE raised after WAKE, and else the drill stays. That presentation can have 17 entries
(DEDUCED, notes/assumptions/20.md). -/
def Obligations.SettlesEnd : Prop :=
  ∀ (s : State) (jack : Jack), Asleep s → s.power.settle = true → s.link.resetPending = none →
    s.link.frames = [] → s.drill.script = [] → s.keys.fifo = [] →
    ∃ t, exec (.wakeSettleEnd jack) s = .next t ∧ t.power.power = .active ∧
      t.power.settle = false ∧ t.power.slept = true ∧ t.power.wakeReason = s.power.wakeReason ∧
      t.keys.firstScan = true ∧ t.out.jack = jack ∧ t.out.load = s.out.load ∧
      t.out.probe = .running ∧ t.speech.player = .held ∧ t.bank = s.bank ∧ t.judge = s.judge ∧
      t.lesson = s.lesson ∧ (s.clips.dir = .unread → t.clips.dir = .reading) ∧
      (s.clips.dir ≠ .unread → t.clips = s.clips) ∧
      (¬ (s.power.wakeReason = .key ∧ s.drill.mode = .drill ∧ s.drill.phase = .paused ∧
          s.drill.reason = .attention) →
        (s.drill.phase = .paused ∨ s.drill.phase = .finished ∨ s.drill.phase = .noPhase) →
        t.drill = s.drill ∧
        t.link.report = (offer s.link (.wake s.power.wakeReason s.power.wakeKey)).report) ∧
      (∀ c r, s.power.wakeReason = .key → s.drill.mode = .drill → s.drill.phase = .paused →
        s.drill.reason = .attention → s.drill.current = some c → s.bank.slot c.word = some r →
        Presents { s with clips := t.clips } t c r true .held s.drill.queue s.drill.attempt ∧
        t.link.report = (offer (offer s.link (.wake s.power.wakeReason s.power.wakeKey))
          (.phase .drill .present .noReason (some c.word))).report)
end

