-- ==== Sys2Proof/Laws/State.lean ====
section
/-! SUPPORT. What the named updates of the state leave in each field: one lemma per field per
update. -/

namespace Sys2Proof.Machine

open Sys2Proof

/-! ## Events in progress -/

@[simp] theorem State.begin_st (s : State) : s.begin.st = s := rfl
@[simp] theorem State.begin_raised (s : State) : s.begin.raised = [] := rfl
@[simp] theorem Work.raise_st (n : Notice) (w : Work) : (w.raise n).st = w.st := rfl
@[simp] theorem Work.raise_raised (n : Notice) (w : Work) : (w.raise n).raised = w.raised ++ [n] := rfl
@[simp] theorem Work.raiseAll_st (ns : List Notice) (w : Work) : (w.raiseAll ns).st = w.st := rfl
@[simp] theorem Work.raiseAll_raised (ns : List Notice) (w : Work) :
    (w.raiseAll ns).raised = w.raised ++ ns := rfl

/-! ## Replies -/

@[simp] theorem placeReply_bank (kind tag : Byte) (payload : List Byte) (s : State) :
    (placeReply kind tag payload s).bank = s.bank := rfl
@[simp] theorem placeReply_params (kind tag : Byte) (payload : List Byte) (s : State) :
    (placeReply kind tag payload s).params = s.params := rfl
@[simp] theorem placeReply_drill (kind tag : Byte) (payload : List Byte) (s : State) :
    (placeReply kind tag payload s).drill = s.drill := rfl
@[simp] theorem placeReply_judge (kind tag : Byte) (payload : List Byte) (s : State) :
    (placeReply kind tag payload s).judge = s.judge := rfl
@[simp] theorem placeReply_keys (kind tag : Byte) (payload : List Byte) (s : State) :
    (placeReply kind tag payload s).keys = s.keys := rfl
@[simp] theorem placeReply_attn (kind tag : Byte) (payload : List Byte) (s : State) :
    (placeReply kind tag payload s).attn = s.attn := rfl
@[simp] theorem placeReply_lesson (kind tag : Byte) (payload : List Byte) (s : State) :
    (placeReply kind tag payload s).lesson = s.lesson := rfl
@[simp] theorem placeReply_clips (kind tag : Byte) (payload : List Byte) (s : State) :
    (placeReply kind tag payload s).clips = s.clips := rfl
@[simp] theorem placeReply_speech (kind tag : Byte) (payload : List Byte) (s : State) :
    (placeReply kind tag payload s).speech = s.speech := rfl
@[simp] theorem placeReply_out (kind tag : Byte) (payload : List Byte) (s : State) :
    (placeReply kind tag payload s).out = s.out := rfl
@[simp] theorem placeReply_power (kind tag : Byte) (payload : List Byte) (s : State) :
    (placeReply kind tag payload s).power = s.power := rfl
@[simp] theorem placeReply_flash (kind tag : Byte) (payload : List Byte) (s : State) :
    (placeReply kind tag payload s).flash = s.flash := rfl
@[simp] theorem placeReply_pending (kind tag : Byte) (payload : List Byte) (s : State) :
    (placeReply kind tag payload s).pending = s.pending := rfl

@[simp] theorem placeReply_reply (kind tag : Byte) (payload : List Byte) (s : State) :
    (placeReply kind tag payload s).link.reply =
      some { kind := replyKind kind, tag := tag, payload := payload } := rfl
@[simp] theorem placeReply_report (kind tag : Byte) (payload : List Byte) (s : State) :
    (placeReply kind tag payload s).link.report = s.link.report := rfl
@[simp] theorem placeReply_tx (kind tag : Byte) (payload : List Byte) (s : State) :
    (placeReply kind tag payload s).link.tx = s.link.tx := rfl
@[simp] theorem placeReply_rx (kind tag : Byte) (payload : List Byte) (s : State) :
    (placeReply kind tag payload s).link.rx = s.link.rx := rfl
@[simp] theorem placeReply_frames (kind tag : Byte) (payload : List Byte) (s : State) :
    (placeReply kind tag payload s).link.frames = s.link.frames := rfl

/-! ## Silence -/

@[simp] theorem heard_bank (s : State) :
    (heard s).bank = s.bank := rfl
@[simp] theorem heard_params (s : State) :
    (heard s).params = s.params := rfl
@[simp] theorem heard_drill (s : State) :
    (heard s).drill = s.drill := rfl
@[simp] theorem heard_judge (s : State) :
    (heard s).judge = s.judge := rfl
@[simp] theorem heard_keys (s : State) :
    (heard s).keys = s.keys := rfl
@[simp] theorem heard_attn (s : State) :
    (heard s).attn = s.attn := rfl
@[simp] theorem heard_lesson (s : State) :
    (heard s).lesson = s.lesson := rfl
@[simp] theorem heard_clips (s : State) :
    (heard s).clips = s.clips := rfl
@[simp] theorem heard_speech (s : State) :
    (heard s).speech = s.speech := rfl
@[simp] theorem heard_out (s : State) :
    (heard s).out = s.out := rfl
@[simp] theorem heard_power (s : State) :
    (heard s).power = s.power := rfl
@[simp] theorem heard_flash (s : State) :
    (heard s).flash = s.flash := rfl
@[simp] theorem heard_pending (s : State) :
    (heard s).pending = s.pending := rfl

/-! ## The transmitter -/

@[simp] theorem transmit_bank (s : State) :
    (transmit s).bank = s.bank := by unfold transmit; split <;> rfl
@[simp] theorem transmit_params (s : State) :
    (transmit s).params = s.params := by unfold transmit; split <;> rfl
@[simp] theorem transmit_drill (s : State) :
    (transmit s).drill = s.drill := by unfold transmit; split <;> rfl
@[simp] theorem transmit_judge (s : State) :
    (transmit s).judge = s.judge := by unfold transmit; split <;> rfl
@[simp] theorem transmit_keys (s : State) :
    (transmit s).keys = s.keys := by unfold transmit; split <;> rfl
@[simp] theorem transmit_attn (s : State) :
    (transmit s).attn = s.attn := by unfold transmit; split <;> rfl
@[simp] theorem transmit_lesson (s : State) :
    (transmit s).lesson = s.lesson := by unfold transmit; split <;> rfl
@[simp] theorem transmit_clips (s : State) :
    (transmit s).clips = s.clips := by unfold transmit; split <;> rfl
@[simp] theorem transmit_speech (s : State) :
    (transmit s).speech = s.speech := by unfold transmit; split <;> rfl
@[simp] theorem transmit_out (s : State) :
    (transmit s).out = s.out := by unfold transmit; split <;> rfl
@[simp] theorem transmit_power (s : State) :
    (transmit s).power = s.power := by unfold transmit; split <;> rfl
@[simp] theorem transmit_flash (s : State) :
    (transmit s).flash = s.flash := by unfold transmit; split <;> rfl
@[simp] theorem transmit_pending (s : State) :
    (transmit s).pending = s.pending := by unfold transmit; split <;> rfl

@[simp] theorem transmit_report (s : State) : (transmit s).link.report = s.link.report := by
  unfold transmit; split <;> rfl
@[simp] theorem transmit_reply (s : State) : (transmit s).link.reply = s.link.reply := by
  unfold transmit; split <;> rfl
@[simp] theorem transmit_mask (s : State) : (transmit s).link.mask = s.link.mask := by
  unfold transmit; split <;> rfl
@[simp] theorem transmit_overrun (s : State) : (transmit s).link.overrun = s.link.overrun := by
  unfold transmit; split <;> rfl
@[simp] theorem transmit_rx (s : State) : (transmit s).link.rx = s.link.rx := by
  unfold transmit; split <;> rfl
@[simp] theorem transmit_frames (s : State) : (transmit s).link.frames = s.link.frames := by
  unfold transmit; split <;> rfl

/-! ## The end of an event -/

@[simp] theorem dispose_bank (w : Work) :
    (dispose w).bank = w.st.bank := rfl
@[simp] theorem dispose_params (w : Work) :
    (dispose w).params = w.st.params := rfl
@[simp] theorem dispose_drill (w : Work) :
    (dispose w).drill = w.st.drill := rfl
@[simp] theorem dispose_judge (w : Work) :
    (dispose w).judge = w.st.judge := rfl
@[simp] theorem dispose_keys (w : Work) :
    (dispose w).keys = w.st.keys := rfl
@[simp] theorem dispose_attn (w : Work) :
    (dispose w).attn = w.st.attn := rfl
@[simp] theorem dispose_lesson (w : Work) :
    (dispose w).lesson = w.st.lesson := rfl
@[simp] theorem dispose_clips (w : Work) :
    (dispose w).clips = w.st.clips := rfl
@[simp] theorem dispose_speech (w : Work) :
    (dispose w).speech = w.st.speech := rfl
@[simp] theorem dispose_out (w : Work) :
    (dispose w).out = w.st.out := rfl
@[simp] theorem dispose_power (w : Work) :
    (dispose w).power = w.st.power := rfl
@[simp] theorem dispose_flash (w : Work) :
    (dispose w).flash = w.st.flash := rfl
@[simp] theorem dispose_pending (w : Work) :
    (dispose w).pending = w.st.pending := rfl

/-! ## Event end and transmitter -/

@[simp] theorem finish_bank (w : Work) :
    (finish w).bank = w.st.bank := by simp [finish]
@[simp] theorem finish_params (w : Work) :
    (finish w).params = w.st.params := by simp [finish]
@[simp] theorem finish_drill (w : Work) :
    (finish w).drill = w.st.drill := by simp [finish]
@[simp] theorem finish_judge (w : Work) :
    (finish w).judge = w.st.judge := by simp [finish]
@[simp] theorem finish_keys (w : Work) :
    (finish w).keys = w.st.keys := by simp [finish]
@[simp] theorem finish_attn (w : Work) :
    (finish w).attn = w.st.attn := by simp [finish]
@[simp] theorem finish_lesson (w : Work) :
    (finish w).lesson = w.st.lesson := by simp [finish]
@[simp] theorem finish_clips (w : Work) :
    (finish w).clips = w.st.clips := by simp [finish]
@[simp] theorem finish_speech (w : Work) :
    (finish w).speech = w.st.speech := by simp [finish]
@[simp] theorem finish_out (w : Work) :
    (finish w).out = w.st.out := by simp [finish]
@[simp] theorem finish_power (w : Work) :
    (finish w).power = w.st.power := by simp [finish]
@[simp] theorem finish_flash (w : Work) :
    (finish w).flash = w.st.flash := by simp [finish]
@[simp] theorem finish_pending (w : Work) :
    (finish w).pending = w.st.pending := by simp [finish]

/-! ## Phases -/

@[simp] theorem enterPhase_link (ph : Phase) (reason : Reason) (w : Work) :
    ((enterPhase ph reason w).st).link = w.st.link := rfl
@[simp] theorem enterPhase_bank (ph : Phase) (reason : Reason) (w : Work) :
    ((enterPhase ph reason w).st).bank = w.st.bank := rfl
@[simp] theorem enterPhase_params (ph : Phase) (reason : Reason) (w : Work) :
    ((enterPhase ph reason w).st).params = w.st.params := rfl
@[simp] theorem enterPhase_judge (ph : Phase) (reason : Reason) (w : Work) :
    ((enterPhase ph reason w).st).judge = w.st.judge := rfl
@[simp] theorem enterPhase_keys (ph : Phase) (reason : Reason) (w : Work) :
    ((enterPhase ph reason w).st).keys = w.st.keys := rfl
@[simp] theorem enterPhase_attn (ph : Phase) (reason : Reason) (w : Work) :
    ((enterPhase ph reason w).st).attn = w.st.attn := rfl
@[simp] theorem enterPhase_lesson (ph : Phase) (reason : Reason) (w : Work) :
    ((enterPhase ph reason w).st).lesson = w.st.lesson := rfl
@[simp] theorem enterPhase_clips (ph : Phase) (reason : Reason) (w : Work) :
    ((enterPhase ph reason w).st).clips = w.st.clips := rfl
@[simp] theorem enterPhase_speech (ph : Phase) (reason : Reason) (w : Work) :
    ((enterPhase ph reason w).st).speech = w.st.speech := rfl
@[simp] theorem enterPhase_out (ph : Phase) (reason : Reason) (w : Work) :
    ((enterPhase ph reason w).st).out = w.st.out := rfl
@[simp] theorem enterPhase_power (ph : Phase) (reason : Reason) (w : Work) :
    ((enterPhase ph reason w).st).power = w.st.power := rfl
@[simp] theorem enterPhase_flash (ph : Phase) (reason : Reason) (w : Work) :
    ((enterPhase ph reason w).st).flash = w.st.flash := rfl
@[simp] theorem enterPhase_pending (ph : Phase) (reason : Reason) (w : Work) :
    ((enterPhase ph reason w).st).pending = w.st.pending := rfl

@[simp] theorem enterPhase_drill (ph : Phase) (reason : Reason) (w : Work) :
    (enterPhase ph reason w).st.drill = { w.st.drill with phase := ph, reason := reason } := rfl
@[simp] theorem enterPhase_raised (ph : Phase) (reason : Reason) (w : Work) :
    (enterPhase ph reason w).raised =
      w.raised ++ [phaseNotice { w.st.drill with phase := ph, reason := reason }] := rfl

/-! ## The key FIFO -/

@[simp] theorem clearFifo_link (s : State) :
    (clearFifo s).link = s.link := rfl
@[simp] theorem clearFifo_bank (s : State) :
    (clearFifo s).bank = s.bank := rfl
@[simp] theorem clearFifo_params (s : State) :
    (clearFifo s).params = s.params := rfl
@[simp] theorem clearFifo_drill (s : State) :
    (clearFifo s).drill = s.drill := rfl
@[simp] theorem clearFifo_judge (s : State) :
    (clearFifo s).judge = s.judge := rfl
@[simp] theorem clearFifo_attn (s : State) :
    (clearFifo s).attn = s.attn := rfl
@[simp] theorem clearFifo_lesson (s : State) :
    (clearFifo s).lesson = s.lesson := rfl
@[simp] theorem clearFifo_clips (s : State) :
    (clearFifo s).clips = s.clips := rfl
@[simp] theorem clearFifo_speech (s : State) :
    (clearFifo s).speech = s.speech := rfl
@[simp] theorem clearFifo_out (s : State) :
    (clearFifo s).out = s.out := rfl
@[simp] theorem clearFifo_power (s : State) :
    (clearFifo s).power = s.power := rfl
@[simp] theorem clearFifo_flash (s : State) :
    (clearFifo s).flash = s.flash := rfl
@[simp] theorem clearFifo_pending (s : State) :
    (clearFifo s).pending = s.pending := rfl

/-! ## A new directory read -/

@[simp] theorem startRead_link (s : State) :
    (startRead s).link = s.link := rfl
@[simp] theorem startRead_bank (s : State) :
    (startRead s).bank = s.bank := rfl
@[simp] theorem startRead_params (s : State) :
    (startRead s).params = s.params := rfl
@[simp] theorem startRead_drill (s : State) :
    (startRead s).drill = s.drill := rfl
@[simp] theorem startRead_judge (s : State) :
    (startRead s).judge = s.judge := rfl
@[simp] theorem startRead_keys (s : State) :
    (startRead s).keys = s.keys := rfl
@[simp] theorem startRead_attn (s : State) :
    (startRead s).attn = s.attn := rfl
@[simp] theorem startRead_lesson (s : State) :
    (startRead s).lesson = s.lesson := rfl
@[simp] theorem startRead_speech (s : State) :
    (startRead s).speech = s.speech := rfl
@[simp] theorem startRead_out (s : State) :
    (startRead s).out = s.out := rfl
@[simp] theorem startRead_power (s : State) :
    (startRead s).power = s.power := rfl
@[simp] theorem startRead_flash (s : State) :
    (startRead s).flash = s.flash := rfl
@[simp] theorem startRead_pending (s : State) :
    (startRead s).pending = s.pending := rfl

/-! ## The reservation -/

@[simp] theorem emptyReservation_reservation (s : State) :
    (emptyReservation s).bank.reservation = none := rfl
@[simp] theorem emptyReservation_slots (s : State) :
    (emptyReservation s).bank.slots = s.bank.slots := rfl

/-! ## The flash rewritten -/

@[simp] theorem State.withFlash_flash (s : State) (content : List Byte) :
    (s.withFlash content).flash = content := rfl
@[simp] theorem State.withFlash_clips (s : State) (content : List Byte) :
    (s.withFlash content).clips = s.clips := rfl
@[simp] theorem State.withFlash_speech (s : State) (content : List Byte) :
    (s.withFlash content).speech = s.speech := rfl
@[simp] theorem State.withFlash_drill (s : State) (content : List Byte) :
    (s.withFlash content).drill = s.drill := rfl
@[simp] theorem State.withFlash_pending (s : State) (content : List Byte) :
    (s.withFlash content).pending = s.pending := rfl

end Sys2Proof.Machine
end

