-- ==== Sys2Proof/Laws/Ops.lean ====
section
/-! SUPPORT. What the shared operations on the report queue, the word bank and the key FIFO can
do. -/

namespace Sys2Proof.Machine

open Sys2Proof

/-! ## The report queue -/

/-- Offering a notice leaves the REPORT QUEUE as it was, with or without the overrun mark set, or
puts the notice at its tail when it held fewer than 16 (R178). -/
theorem offer_cases (l : LinkPort) (n : Notice) :
    offer l n = l ∨ offer l n = { l with overrun := true } ∨
      (l.report.length < Config.reportPlaces ∧ offer l n = { l with report := l.report ++ [n] }) := by
  unfold offer
  split
  · split
    · rename_i h; exact .inr (.inr ⟨h, rfl⟩)
    · exact .inr (.inl rfl)
  · exact .inl rfl

/-- A notice of a masked kind is not queued and sets no mark (R178, R180). -/
theorem offer_masked {l : LinkPort} {n : Notice} (h : enabled l.mask n = false) : offer l n = l := by
  simp [offer, h]

/-- An enabled notice that finds a place stands at the tail (R178). -/
theorem offer_queued {l : LinkPort} {n : Notice} (h : enabled l.mask n = true)
    (hl : l.report.length < Config.reportPlaces) :
    offer l n = { l with report := l.report ++ [n] } := by
  simp [offer, h, hl]

/-- An enabled notice that finds 16 is dropped and the overrun mark set (R178, R179). -/
theorem offer_dropped {l : LinkPort} {n : Notice} (h : enabled l.mask n = true)
    (hl : ¬ l.report.length < Config.reportPlaces) : offer l n = { l with overrun := true } := by
  simp [offer, h, hl]

/-- Offering a notice keeps the REPORT QUEUE within its places. -/
theorem offer_report_le {l : LinkPort} (n : Notice) (h : l.report.length ≤ Config.reportPlaces) :
    (offer l n).report.length ≤ Config.reportPlaces := by
  rcases offer_cases l n with e | e | ⟨hl, e⟩ <;> rw [e]
  · exact h
  · exact h
  · simp [Config.reportPlaces] at hl ⊢; omega

/-- Offering notices changes the REPORT QUEUE and its overrun mark alone. -/
theorem offerAll_frame (ns : List Notice) (l : LinkPort) :
    ∃ q o, ns.foldl offer l = { l with report := q, overrun := o } := by
  induction ns generalizing l with
  | nil => exact ⟨l.report, l.overrun, rfl⟩
  | cons n ns ih =>
    obtain ⟨q, o, e⟩ := ih (offer l n)
    refine ⟨q, o, ?_⟩
    rw [List.foldl_cons, e]
    rcases offer_cases l n with h | h | ⟨_, h⟩ <;> rw [h]

/-- An event with no notice ends with the state it reached. -/
@[simp] theorem dispose_begin (s : State) : dispose s.begin = s := rfl

/-- With one notice raised the event's end offers it. -/
theorem dispose_one {w : Work} {n : Notice} (h : w.raised = [n]) :
    dispose w = { w.st with link := offer w.st.link n } := by
  simp [dispose, h, restingNotices]

/-! ## The transmitter -/

/-- A transmitter that sends, or the part asleep, chooses nothing (R177). -/
theorem transmit_of_busy {s : State} (h : s.link.tx.isSome = true) : transmit s = s := by
  unfold transmit
  cases e : s.link.tx <;> simp_all

/-- A waiting reply is always chosen first (R177). -/
theorem chooseFrame_reply {l : LinkPort} {f : Frame} (h : l.reply = some f) :
    chooseFrame l = some { isReply := true, bytes := f.bytes } := by
  simp [chooseFrame, h]

/-! ## The word bank -/

/-- The slot written holds what was written; every other slot is as it was (R1). -/
theorem slot_setSlot (b : WordBank) (i j : Nat) (r : Option WordRecord) :
    (setSlot b i r).slot j = if i < 96 ∧ j = i then r else b.slot j := by
  by_cases h : i < 96
  · by_cases hj : j < 96
    · by_cases e : j = i
      · subst e; simp [setSlot, WordBank.slot, hj]
      · have e' : i ≠ j := fun h' => e h'.symm
        simp [setSlot, WordBank.slot, h, hj, e, e']
    · have e : j ≠ i := fun h' => hj (h' ▸ h)
      simp [WordBank.slot, hj, e]
  · simp [setSlot, h]

/-- Clearing the reservation changes no slot. -/
@[simp] theorem slot_clearReservation (b : WordBank) (i j : Nat) :
    (clearReservation b i).slot j = b.slot j := by
  unfold clearReservation; split <;> rfl

/-- After a change to word i the reservation does not name it (R14). -/
theorem clearReservation_ne (b : WordBank) (i : Nat) : (clearReservation b i).reservation ≠ some i := by
  unfold clearReservation; split
  · simp
  · assumption

/-- What one change to a record leaves in the slots (R14, R8). -/
theorem changeRecord_slot (i j : Nat) (r : WordRecord) (w : Work) :
    (changeRecord i r w).st.bank.slot j = if i < 96 ∧ j = i then some r else w.st.bank.slot j := by
  have key : (clearReservation (setSlot w.st.bank i (some r)) i).slot j =
      if i < 96 ∧ j = i then some r else w.st.bank.slot j := by
    rw [slot_clearReservation, slot_setSlot]
  simp only [changeRecord]
  cases w.st.bank.slot i with
  | none => exact key
  | some o => by_cases e : o.standing = r.standing <;> simp only [e, if_true, if_false] <;> exact key

/-- A change to a record touches nothing of the state but the bank. -/
theorem changeRecord_frame (i : Nat) (r : WordRecord) (w : Work) :
    ∃ b, (changeRecord i r w).st = { w.st with bank := b } := by
  simp only [changeRecord]
  cases w.st.bank.slot i with
  | none => exact ⟨_, rfl⟩
  | some o =>
    by_cases e : o.standing = r.standing <;> simp only [e, if_true, if_false] <;> exact ⟨_, rfl⟩

/-- A change to a record raises no notice but its STANDING notice (R8). -/
theorem changeRecord_raised (i : Nat) (r : WordRecord) (w : Work) :
    (changeRecord i r w).raised = w.raised ∨
      ∃ o, w.st.bank.slot i = some o ∧ o.standing ≠ r.standing ∧
        (changeRecord i r w).raised = w.raised ++ [.standing i o.standing r.standing r.strain] := by
  simp only [changeRecord]
  cases h : w.st.bank.slot i with
  | none => exact .inl rfl
  | some o =>
    by_cases e : o.standing = r.standing
    · simp [e]
    · exact .inr ⟨o, rfl, e, by simp [e]⟩

/-- The removal of R19 changes the DRILL QUEUE alone. -/
theorem dropIneligible_frame (i : Nat) (s : State) :
    ∃ q, dropIneligible i s = { s with drill.queue := q } := by
  unfold dropIneligible; split <;> exact ⟨_, rfl⟩

/-! ## The key FIFO -/

/-- Offering a key event keeps the KEY FIFO within its eight places (R100). -/
theorem offerKey_fifo_le {s : State} (e : KeyEvent) (h : s.keys.fifo.length ≤ Config.fifoPlaces) :
    (offerKey e s).keys.fifo.length ≤ Config.fifoPlaces := by
  unfold offerKey
  split
  · exact h
  · split
    · rename_i hl; simp [Config.fifoPlaces] at hl ⊢; omega
    · exact h

/-- In SETUP a key event is discarded at once (R100). -/
theorem offerKey_setup {s : State} (e : KeyEvent) (h : s.drill.mode = .setup) : offerKey e s = s := by
  simp [offerKey, h]

/-! ## A request's last that gives way (R134, R137) -/

/-- The entry that outlives its request's last keeps its clip. -/
@[simp] theorem lastGone_clip (e : Entry) : (lastGone e).clip = e.clip := by
  unfold lastGone; split <;> rfl

/-- The entry that outlives its request's last keeps its gap. -/
@[simp] theorem lastGone_gap (e : Entry) : (lastGone e).gap = e.gap := by
  unfold lastGone; split <;> rfl

/-- The entry that outlives its request's last stays SAID, or not, as it was. -/
@[simp] theorem lastGone_isSaid (e : Entry) : (lastGone e).cls.isSaid = e.cls.isSaid := by
  unfold lastGone
  split
  · rename_i h; rw [h]; rfl
  · rfl

/-- The entry that outlives its request's last marks no other request when it leaves (R137). -/
theorem saidLeaves_lastGone {e : Entry} {tag : Byte} {o : SayOutcome}
    (h : e.cls = .said tag false o) (how : Leaving) (es : List Entry) :
    saidLeaves how (lastGone e) es = (es, []) := by
  simp [lastGone, h, saidLeaves]

/-- An entry of no request marks nothing and reports nothing when it leaves (R137). -/
theorem saidLeaves_drill {e : Entry} (h : e.cls.isSaid = false) (how : Leaving) (es : List Entry) :
    saidLeaves how e es = (es, []) := by
  unfold saidLeaves
  split
  · rename_i h'; simp [h', EntryClass.isSaid] at h
  · rename_i h'; simp [h', EntryClass.isSaid] at h
  · rfl

/-- What a removal of every waiting host entry reports (R136, R137). -/
theorem removedNotices_eq (q : List Entry) : removedNotices q = q.filterMap flushedDone := rfl

/-! ## Presentations (R70) -/

/-- The script of a presentation is the presentation of R70, entry by entry. -/
theorem presentation_eq (p : Params) (tryNo : Nat) (welcome : Bool) (r : WordRecord) :
    presentation p.presentStyle tryNo welcome r = presentationItems p tryNo welcome r := by
  unfold presentation presentationItems baseForm spellsAloud letterItems
  cases r.sentClip <;> by_cases h : tryNo = 1 <;>
    by_cases hs : p.presentStyle = 1 ∨ r.standing = .shaky <;> simp [h, hs]

/-! ## Clips (R130, R131) -/

/-- Only a clip of the directory whose entry in the flash is usable can be played, and it starts with
nothing handed over. -/
theorem playable_some {s : State} {n : Nat} {p : Playing} (h : playable s n = some p) :
    1 ≤ n ∧ n ≤ s.clips.count ∧ (readEntry s.flash n).usable = some p.coding ∧ p.clip = n ∧
      p.trim = (readEntry s.flash n).trim ∧ p.count = (readEntry s.flash n).count ∧ p.handed = 0 ∧
      p.refused = false := by
  unfold playable at h
  split at h
  · rename_i hn
    simp only at h
    split at h
    · rename_i hc; cases h; exact ⟨hn.1, hn.2, hc, rfl, rfl, rfl, rfl, rfl⟩
    · cases h
  · cases h

end Sys2Proof.Machine
end

