-- ==== Sys2Proof/Laws/Cascade.lean ====
section
/-! SUPPORT. What the cascade within one event can do, and the part at rest. -/

namespace Sys2Proof.Machine

open Sys2Proof

/-- Everything one step of the cascade can be. -/
theorem micro_cases {w w' : Work} (h : micro w = some w') :
    (probeDue w.st = true ∧ w' = probeStarts w) ∨ (takeDue w.st = true ∧ w' = takeHead w) ∨
    (playDue w.st = true ∧ w' = enterPlay w) ∨ (feedDue w.st = true ∧ w' = feed w) ∨
    (keyDue w.st = true ∧ w' = takeKey w) ∨ (speechOver w.st = true ∧ w' = endPhase w) := by
  unfold micro at h
  repeat' split at h
  all_goals simp_all

/-- Nothing follows exactly when the part is at rest. -/
theorem micro_eq_none (w : Work) : micro w = none ↔ atRest w.st = true := by
  unfold micro atRest
  repeat' split
  all_goals simp_all

/-- At rest the cascade does nothing. -/
theorem runOn_atRest {w : Work} (h : atRest w.st = true) (n : Nat) : runOn n w = w := by
  cases n with
  | zero => rfl
  | succ n => simp [runOn, (micro_eq_none w).2 h]

/-- One step of the cascade, then the rest of it. -/
theorem runOn_step {w w' : Work} (h : micro w = some w') (n : Nat) : runOn (n + 1) w = runOn n w' := by
  simp [runOn, h]

/-- What every step of the cascade keeps, the cascade keeps. -/
theorem runOn_induct {P : Work → Prop} (step : ∀ w w', micro w = some w' → P w → P w') (n : Nat)
    {w : Work} (h : P w) : P (runOn n w) := by
  induction n generalizing w with
  | zero => exact h
  | succ n ih =>
    unfold runOn
    split
    · exact h
    · rename_i w' e; exact ih (step w w' e h)

/-- An event at rest ends as it stands. -/
theorem endEvent_atRest {w : Work} (h : atRest w.st = true) : endEvent w = dispose w := by
  simp [endEvent, runToRest, runOn_atRest h]

/-- An event at rest concludes as it stands. -/
theorem conclude_atRest {w : Work} (h : atRest w.st = true) : conclude w = finish w := by
  simp [conclude, finish, endEvent_atRest h]

end Sys2Proof.Machine
end

