-- ==== Sys2Proof/Laws/Event.lean ====
section
/-! SUPPORT. What no part of an event's cascade touches: the parameters, the power, the keys but
their FIFO, the directory, the load, the guard and the link. -/

namespace Sys2Proof.Machine

open Sys2Proof

/-- What the parts of a cascade keep. -/
structure Kept (s t : State) : Prop where
  link    : t.link = s.link
  params  : t.params = s.params
  keys    : t.keys = { s.keys with fifo := t.keys.fifo }
  lesson  : t.lesson = s.lesson
  clips   : t.clips = { s.clips with spi := t.clips.spi }
  load    : t.out.load = s.out.load ∧ t.out.jack = s.out.jack ∧ t.out.tripped = s.out.tripped
  power   : t.power = s.power
  flash   : t.flash = s.flash
  pending : t.pending = s.pending

theorem Kept.refl (s : State) : Kept s s := by constructor <;> simp

theorem Kept.trans {s t u : State} (h : Kept s t) (k : Kept t u) : Kept s u where
  link := k.link.trans h.link
  params := k.params.trans h.params
  keys := by rw [k.keys, h.keys]
  lesson := k.lesson.trans h.lesson
  clips := by rw [k.clips, h.clips]
  load := ⟨k.load.1.trans h.load.1, k.load.2.1.trans h.load.2.1, k.load.2.2.trans h.load.2.2⟩
  power := k.power.trans h.power
  flash := k.flash.trans h.flash
  pending := k.pending.trans h.pending

/-- What differs in the bank, the drill, the records, the timer, the speech and the FIFO alone is
kept. -/
theorem Kept.of_eq {s t : State} (h : t = { s with
    bank := t.bank, drill := t.drill, judge := t.judge, attn := t.attn, speech := t.speech,
    keys := { s.keys with fifo := t.keys.fifo } }) : Kept s t := by
  rw [h]; constructor <;> simp

/-! ## The speech -/

/-- Closing an entry keeps the load, the JACK state and the guard (R149). -/
theorem closeEntry_load (p : Params) (o : OutputStage) : (closeEntry p o).load = o.load ∧
    (closeEntry p o).jack = o.jack ∧ (closeEntry p o).tripped = o.tripped := by
  unfold closeEntry raiseTrim
  repeat' split
  all_goals exact ⟨rfl, rfl, rfl⟩

/-- A playing entry that leaves changes the speech, the output's counters and the SPI channel (R129,
R149). -/
theorem leaveHead_kept (how : Leaving) (w : Work) : Kept w.st (leaveHead how w).st := by
  unfold leaveHead
  cases w.st.speech.queue with
  | nil => exact Kept.of_eq rfl
  | cons e es =>
    cases h : w.st.speech.player
    case play p =>
      simp only
      exact ⟨rfl, rfl, rfl, rfl, rfl, closeEntry_load _ _, rfl, rfl, rfl⟩
    all_goals exact ⟨rfl, rfl, rfl, rfl, rfl, ⟨rfl, rfl, rfl⟩, rfl, rfl, rfl⟩

/-- Placing an entry changes the UTTERANCE QUEUE alone (R134). -/
theorem place_frame (e : Entry) (w : Work) :
    ∃ q, (place e w).st = { w.st with speech := { w.st.speech with queue := q } } := by
  unfold place
  simp only
  repeat' split
  all_goals exact ⟨_, rfl⟩

theorem place_kept (e : Entry) (w : Work) : Kept w.st (place e w).st := by
  obtain ⟨q, h⟩ := place_frame e w
  rw [h]; exact Kept.of_eq rfl

/-- A SAID entry that gives way leaves the queue one shorter (R134). -/
theorem giveWay_length : ∀ (q q' : List Entry) (ns : List Notice), giveWay q = some (q', ns) →
    q'.length + 1 = q.length
  | [], q', ns, h => by simp [giveWay] at h
  | e :: es, q', ns, h => by
    unfold giveWay at h
    split at h
    · have mark : ∀ l : List Entry, (markLast .removed l).length = l.length := by
        intro l
        induction l with
        | nil => rfl
        | cons x xs ih =>
          unfold markLast
          split <;> simp_all
      simp only [Option.some.injEq] at h
      have h1 : q' = (saidLeaves .removed e es).1 := by rw [h]
      subst h1
      unfold saidLeaves
      split <;> simp [mark]
    · simp only [Option.map_eq_some_iff] at h
      obtain ⟨⟨r, ns'⟩, hr, e'⟩ := h
      have := giveWay_length es r ns' hr
      simp only [Prod.mk.injEq] at e'
      rw [← e'.1]; simp [this]

/-- The same among the waiting entries. -/
theorem giveWayWaiting_length (playing : Bool) (q q' : List Entry) (ns : List Notice)
    (h : giveWayWaiting playing q = some (q', ns)) : q'.length + 1 = q.length := by
  unfold giveWayWaiting at h
  split at h
  · simp only [Option.map_eq_some_iff] at h
    obtain ⟨⟨r, ns'⟩, hr, e'⟩ := h
    simp only [Prod.mk.injEq] at e'
    have := giveWay_length _ r ns' hr
    rw [← e'.1]; simp [this]
  · exact giveWay_length _ _ _ h

/-- Placing an entry keeps the UTTERANCE QUEUE within its 12 places (R128, R134). -/
theorem place_length {e : Entry} {w : Work} (h : w.st.speech.queue.length ≤ Config.utterancePlaces) :
    (place e w).st.speech.queue.length ≤ Config.utterancePlaces := by
  unfold place
  simp only
  split
  · rename_i hl; simp [Config.utterancePlaces] at hl ⊢; omega
  · split
    · split
      · rename_i q' ns hq
        have := giveWayWaiting_length _ _ _ _ hq
        simp [Config.utterancePlaces] at h ⊢; omega
      · exact h
    · exact h

/-- Placing an ECHO (R133). -/
theorem placeEcho_kept (e : Entry) (w : Work) : Kept w.st (placeEcho e w).st := by
  unfold placeEcho
  simp only
  split
  · exact Kept.of_eq rfl
  · split
    · exact (leaveHead_kept .cut w).trans (Kept.of_eq rfl)
    · split <;> exact Kept.of_eq rfl

/-- Cutting the playing entry (7.8). -/
theorem cutHead_kept (p : EntryClass → Bool) (w : Work) : Kept w.st (cutHead p w).st := by
  unfold cutHead
  split
  · split
    · exact leaveHead_kept _ _
    · exact Kept.refl _
  · exact Kept.refl _

/-- The engine flush (R138). -/
theorem engineFlush_kept (w : Work) : Kept w.st (engineFlush w).st :=
  (cutHead_kept _ w).trans (Kept.of_eq rfl)

/-! ## The drill -/

/-- A phase change (R61). -/
theorem enterPhase_kept (ph : Phase) (r : Reason) (w : Work) : Kept w.st (enterPhase ph r w).st :=
  Kept.of_eq rfl

/-- Settling a word (R65). -/
theorem settleWord_frame (s : State) : ∃ d, settleWord s = { s with drill := d } := by
  unfold settleWord
  split <;> exact ⟨_, rfl⟩

theorem settleWord_kept (s : State) : Kept s (settleWord s) := by
  obtain ⟨d, h⟩ := settleWord_frame s
  rw [h]; exact Kept.of_eq rfl

/-- A pause (R78). -/
theorem pauseDrill_kept (r : Reason) (w : Work) : Kept w.st (pauseDrill r w).st := by
  refine (engineFlush_kept w).trans ?_
  unfold pauseDrill
  simp only
  split
  · exact (Kept.of_eq rfl : Kept _ { (engineFlush w).st with
        drill.script := [], keys.fifo := [], attn := stopAttention (engineFlush w).st.attn }).trans
      ((settleWord_kept _).trans (Kept.of_eq rfl))
  · exact Kept.of_eq rfl

/-- Presenting (R70). -/
theorem present_kept (welcome : Bool) (w : Work) : Kept w.st (present welcome w).st := by
  unfold present
  split <;> exact Kept.of_eq rfl

/-- A word boundary (R64, R83, R88). -/
theorem boundary_kept (w : Work) : Kept w.st (boundary w).st := by
  unfold boundary
  split
  · exact (enterPhase_kept _ _ w).trans (place_kept _ _)
  · split
    · exact (pauseDrill_kept _ w).trans (place_kept _ _)
    · unfold takeWord
      exact Kept.trans (Kept.of_eq rfl) (present_kept _ _)

theorem toBoundary_kept (w : Work) : Kept w.st (toBoundary w).st := by
  unfold toBoundary
  exact Kept.trans (Kept.of_eq rfl) (boundary_kept _)

theorem toPresent_kept (welcome : Bool) (w : Work) : Kept w.st (toPresent welcome w).st := by
  unfold toPresent
  split
  · exact present_kept _ _
  · exact Kept.trans (Kept.of_eq rfl) (toBoundary_kept _)

/-! ## Judging -/

theorem changeRecord_kept (i : Nat) (r : WordRecord) (w : Work) :
    Kept w.st (changeRecord i r w).st := by
  obtain ⟨b, h⟩ := changeRecord_frame i r w
  rw [h]; exact Kept.of_eq rfl

theorem visitBench_kept (w : Work) (i : Nat) : Kept w.st (visitBench w i).st := by
  unfold visitBench
  split
  · split
    · exact (changeRecord_kept _ _ w).trans (Kept.of_eq rfl)
    · exact Kept.refl _
  · exact Kept.refl _

theorem visits_kept (l : List Nat) (w : Work) : Kept w.st (l.foldl visitBench w).st := by
  induction l generalizing w with
  | nil => exact Kept.refl _
  | cons i l ih => exact (visitBench_kept w i).trans (ih _)

theorem benchReturns_kept (w : Work) : Kept w.st (benchReturns w).st := by
  unfold benchReturns
  split
  · exact visits_kept _ _
  · exact Kept.refl _

/-- The credit step and the returns after it (R51, R52). -/
theorem steppedReturns_kept (b : WordBank) (w : Work) :
    Kept w.st (benchReturns { w with st := { w.st with bank := b } }).st :=
  Kept.trans (Kept.of_eq rfl) (benchReturns_kept { w with st := { w.st with bank := b } })

/-- A judgement (R23). -/
theorem makeJudgement_kept (c : Current) (r : WordRecord) (w : Work) :
    Kept w.st (makeJudgement c r w).st := by
  unfold makeJudgement
  simp only
  split
  · refine Kept.trans (Kept.trans ?_ (changeRecord_kept c.word _ _)) (steppedReturns_kept _ _)
    exact Kept.of_eq rfl
  · refine Kept.trans ?_ (changeRecord_kept _ _ _)
    exact Kept.of_eq rfl

theorem judge_kept (c : Current) (r : WordRecord) (w : Work) : Kept w.st (judge c r w).st := by
  refine (makeJudgement_kept c r w).trans ?_
  unfold judge
  simp only
  repeat' split
  all_goals exact Kept.of_eq rfl

/-! ## Key events -/

theorem echoLetter_kept (l : Letter) (w : Work) : Kept w.st (echoLetter l w).st := by
  unfold echoLetter
  repeat' split
  · exact placeEcho_kept _ _
  · exact placeEcho_kept _ _
  · exact Kept.refl _

theorem typeLetter_kept (l : Letter) (w : Work) : Kept w.st (typeLetter l w).st := by
  unfold typeLetter
  split
  · exact Kept.trans (Kept.of_eq rfl) (echoLetter_kept l _)
  · exact place_kept _ _

theorem rubOut_kept (w : Work) : Kept w.st (rubOut w).st := by
  unfold rubOut
  split
  · exact Kept.refl _
  · exact Kept.trans (Kept.of_eq rfl) (place_kept _ _)

theorem hint_kept (c : Current) (r : WordRecord) (w : Work) : Kept w.st (hint c r w).st := by
  unfold hint
  split
  · split
    · refine Kept.trans ?_ (place_kept _ _)
      refine Kept.trans ?_ (place_kept _ _)
      refine Kept.trans ?_ (changeRecord_kept _ _ _)
      exact Kept.of_eq rfl
    · exact Kept.refl _
  · exact place_kept _ _

theorem takeInListen_kept (e : KeyEvent) (w : Work) : Kept w.st (takeInListen e w).st := by
  unfold takeInListen
  split
  · refine Kept.trans ?_ (Kept.of_eq rfl)
    unfold listenKey
    split
    · exact typeLetter_kept _ _
    · exact rubOut_kept _
    · split
      · exact place_kept _ _
      · exact judge_kept _ _ _
    · exact place_kept _ _
    · exact hint_kept _ _ _
    · exact Kept.refl _
    · exact Kept.refl _
    · exact place_kept _ _
  · exact Kept.refl _

theorem goInFeedback_kept (w : Work) : Kept w.st (goInFeedback w).st := by
  unfold goInFeedback
  simp only
  refine Kept.trans ?_ (Kept.of_eq rfl)
  split
  · split
    · exact leaveHead_kept _ _
    · exact Kept.refl _
  · exact Kept.refl _

theorem takeInFree_kept (e : KeyEvent) (w : Work) : Kept w.st (takeInFree e w).st := by
  have base : Kept w.st (w.raise (.key e)).st := Kept.refl _
  unfold takeInFree
  simp only
  split
  · exact base.trans (typeLetter_kept _ _)
  · exact base.trans (rubOut_kept _)
  · split
    · exact base
    · exact Kept.of_eq rfl
  · exact base
  · exact base
  · exact base
  · exact base
  · exact base.trans (place_kept _ _)

/-- A key event taken in any mode and phase (5.5). -/
theorem takeEvent_kept (e : KeyEvent) (w : Work) : Kept w.st (takeEvent e w).st := by
  unfold takeEvent
  repeat' split
  · exact takeInFree_kept _ _
  · exact Kept.refl _
  · exact takeInListen_kept _ _
  · exact goInFeedback_kept _
  · exact toPresent_kept _ _
  · exact Kept.refl _
  · exact Kept.refl _

theorem takeKey_kept (w : Work) : Kept w.st (takeKey w).st := by
  unfold takeKey
  split
  · exact Kept.refl _
  · rename_i e es h
    exact Kept.trans (Kept.of_eq rfl) (takeEvent_kept _ _)

/-! ## The cascade -/

theorem endPhase_kept (w : Work) : Kept w.st (endPhase w).st := by
  unfold endPhase
  split
  · exact Kept.of_eq rfl
  · split
    · split
      · exact Kept.of_eq rfl
      · exact (settleWord_kept _).trans (toBoundary_kept { w with st := settleWord w.st })
    · exact toBoundary_kept _
  · exact (settleWord_kept _).trans (toBoundary_kept { w with st := settleWord w.st })
  · exact Kept.refl _

theorem enterPlay_kept (w : Work) : Kept w.st (enterPlay w).st := by
  unfold enterPlay startClip
  repeat' split
  all_goals first
    | exact leaveHead_kept _ _
    | exact ⟨rfl, rfl, rfl, rfl, rfl, ⟨rfl, rfl, rfl⟩, rfl, rfl, rfl⟩

theorem feed_kept (w : Work) : Kept w.st (feed w).st := by
  unfold feed
  split
  · exact Kept.refl _
  · rename_i i is h
    exact Kept.trans (Kept.of_eq rfl) (place_kept _ _)

/-- One part of a cascade. -/
theorem micro_kept {w w' : Work} (h : micro w = some w') : Kept w.st w'.st := by
  rcases micro_cases h with ⟨-, rfl⟩ | ⟨-, rfl⟩ | ⟨-, rfl⟩ | ⟨-, rfl⟩ | ⟨-, rfl⟩ | ⟨-, rfl⟩
  · exact ⟨rfl, rfl, rfl, rfl, rfl, ⟨rfl, rfl, rfl⟩, rfl, rfl, rfl⟩
  · exact Kept.of_eq rfl
  · exact enterPlay_kept _
  · exact feed_kept _
  · exact takeKey_kept _
  · exact endPhase_kept _

/-- A whole cascade. -/
theorem runOn_kept (n : Nat) (w : Work) : Kept w.st (runOn n w).st :=
  runOn_induct (P := fun x => Kept w.st x.st) (fun _ _ h k => k.trans (micro_kept h)) n (Kept.refl _)

/-- The end of an event: what its cascade keeps, and the REPORT QUEUE and its overrun mark. -/
theorem endEvent_frame (w : Work) : ∃ t q o, Kept w.st t ∧
    endEvent w = { t with link := { t.link with report := q, overrun := o } } := by
  obtain ⟨q, o, h⟩ := offerAll_frame (restingNotices (runToRest w).raised) (runToRest w).st.link
  exact ⟨(runToRest w).st, q, o, runOn_kept _ w, by simp only [endEvent, dispose, h]⟩

/-- The transmitter's choice changes the frame being sent alone (R177). -/
theorem transmit_frame (s : State) : ∃ x, transmit s = { s with link := { s.link with tx := x } } := by
  unfold transmit
  split <;> exact ⟨_, rfl⟩

end Sys2Proof.Machine
end

