-- ==== Sys2Proof/Laws/Link.lean ====
section
/-! SUPPORT. What the LINK PORT's operations do: a request on a ready port, bytes one after another,
the end of a frame. -/

namespace Sys2Proof.Machine

open Sys2Proof

/-- A request of a good length on a ready port is acted on and answered (R175). -/
theorem deliver_ready {s : State} (tag : Byte) {r : Request} (h : ready s = true)
    (hl : requestLengthOk r = true) :
    deliver tag r s = answered r tag (act tag r (heard s)).2 (act tag r (heard s)).1 := by
  simp [deliver, h, hl, answered, heard]

/-- A payload of another length is answered BAD_ARG, whatever the kind (R176). -/
@[simp] theorem refuseLength_payload (kind : Byte) (s : State) :
    (refuseLength kind s).2 = [Result.badArg.code] := rfl

/-- Of a payload of another length nothing is done but that a WORD_PUT_IF empties the reservation
(R14, R16, R176). -/
theorem refuseLength_state (kind : Byte) (s : State) :
    (refuseLength kind s).1 = if kind = 0x11#8 then emptyReservation s else s := rfl

/-- A request of another length on a ready port is answered BAD_ARG (R176). -/
theorem deliver_badLength {s : State} (tag : Byte) {r : Request} (h : ready s = true)
    (hl : requestLengthOk r = false) :
    deliver tag r s =
      answered r tag [Result.badArg.code] (refuseLength (requestKind r) (heard s)).1 := by
  simp [deliver, h, hl, answered, heard]

/-- Of a kind that is not WORD_PUT_IF, such a request does nothing else (R176). -/
theorem deliver_badLength_plain {s : State} (tag : Byte) {r : Request} (h : ready s = true)
    (hl : requestLengthOk r = false) (hk : requestKind r ≠ 0x11#8) :
    deliver tag r s = refusedWith r tag .badArg s := by
  rw [deliver_badLength tag h hl, refuseLength_state, if_neg hk]; rfl

/-- On a port that is not ready a request's bytes arrive one by one. -/
theorem deliver_notReady {s : State} (tag : Byte) (r : Request) (h : ready s = false) :
    deliver tag r s = receiveAll (requestFrame tag r).bytes s := by
  simp [deliver, h]

/-- No bytes change nothing. -/
@[simp] theorem receiveAll_nil (s : State) : receiveAll [] s = s := rfl

/-- The first byte, then the others. -/
@[simp] theorem receiveAll_cons (b : Byte) (bs : List Byte) (s : State) :
    receiveAll (b :: bs) s = receiveAll bs (receive b s) := rfl

/-- Bytes in two runs. -/
theorem receiveAll_append (bs cs : List Byte) (s : State) :
    receiveAll (bs ++ cs) s = receiveAll cs (receiveAll bs s) := by
  simp [receiveAll, List.foldl_append]

/-- A byte that is no start byte, hunting in ACTIVE, is discarded (R171). -/
theorem receive_hunt_other {s : State} {b : Byte} (hp : s.power.power = .active)
    (hr : s.link.rx = .hunt) (hb : b ≠ Config.startByte) : receive b s = heard s := by
  simp [receive, hp, hr, hb, heard]

/-- Without a reset or sleep waiting on it, a reply's end empties the slot and takes the next
request (R175). -/
theorem replySent_plain {s : State} (hs : s.power.sleepPending = false)
    (hp : s.power.power = .active) (hr : s.link.resetPending = none) :
    replySent s = takeWaiting { s with link.reply := none } := by
  simp [replySent, hs, hp, hr]

end Sys2Proof.Machine
end

