-- ==== Sys2Proof/Tests/Slice0.lean ====
section
/-! SUPPORT. Tests: ill-formed commands refused, the spec's worked examples, and for every statement
with hypotheses a state that meets them. Expected values come from the chapter named. -/

namespace Sys2Proof.Tests

open Sys2Proof Sys2Proof.Machine

/-! ## Ill-formed commands are refused (R171, R176) -/

set_option maxRecDepth 4000

/-- A write of slot 3 with this spelling. -/
def write (bs : List Byte) : WordWrite :=
  { index := 3#8, flags := 1#8, strain := 0#16, wordClip := 1#16, sentClip := 0#16, group := 0#8,
    spelling := bs }

theorem test_queueLoad_of_250_refused :
    (Instr.queueLoadList 0#8 (List.replicate 250 0#8)).wellFormed = false := by decide
theorem test_queueLoad_of_249_accepted :
    (Instr.queueLoadList 0#8 (List.replicate 249 0#8)).wellFormed = true := by decide
theorem test_wordPut_of_241_letters_refused :
    (Instr.wordPut 0#8 (write (List.replicate 241 0x41#8))).wellFormed = false := by decide
theorem test_wordPutIf_of_241_letters_refused :
    (Instr.wordPutIf 0#8 (write (List.replicate 241 0x41#8))).wellFormed = false := by decide
theorem test_keymap_of_251_refused :
    (Instr.keymap 0#8 (List.replicate 251 0#8)).wellFormed = false := by decide
theorem test_say_of_125_clips_refused :
    (Instr.say 0#8 0#8 (List.replicate 125 1#16)).wellFormed = false := by decide
theorem test_unknownKind_that_names_a_request_refused :
    (Instr.unknownKind 0x23#8 0#8 []).wellFormed = false := by decide
theorem test_unknownKind_of_251_bytes_refused :
    (Instr.unknownKind 0x7F#8 0#8 (List.replicate 251 0#8)).wellFormed = false := by decide

/-! ## The worked alignments (2.4) -/

/-- A slip of a kind at these positions, 0 for absent. -/
def slip (k : SlipKind) (t a : Nat) (expected typed : Option Letter) : Slip :=
  { kind := k, targetPos := if t = 0 then none else some t,
    typedPos := if a = 0 then none else some a, expected := expected, typed := typed }

/-- FRIEND typed FREIND. -/
theorem test_friend : slipsOf [5, 17, 8, 4, 13, 3] [5, 17, 4, 8, 13, 3] =
    [slip .swapped 3 3 (some 8) (some 4)] := by decide
/-- BECAUSE typed BECOS. -/
theorem test_because : slipsOf [1, 4, 2, 0, 20, 18, 4] [1, 4, 2, 14, 18] =
    [slip .substitute 4 4 (some 0) (some 14), slip .missing 5 0 (some 20) none,
     slip .missing 7 0 (some 4) none] := by decide
/-- CAT typed CAAT. -/
theorem test_cat : slipsOf [2, 0, 19] [2, 0, 0, 19] = [slip .extra 0 3 none (some 0)] := by decide
/-- HOUSE typed HOSE. -/
theorem test_house : slipsOf [7, 14, 20, 18, 4] [7, 14, 18, 4] =
    [slip .missing 3 0 (some 20) none] := by decide
/-- CAR typed CRR. -/
theorem test_car : slipsOf [2, 0, 17] [2, 17, 17] =
    [slip .substitute 2 2 (some 0) (some 17)] := by decide
/-- ELEPHANT typed ELEFANT. -/
theorem test_elephant : slipsOf [4, 11, 4, 15, 7, 0, 13, 19] [4, 11, 4, 5, 0, 13, 19] =
    [slip .substitute 4 4 (some 15) (some 5), slip .missing 5 0 (some 7) none] := by decide
/-- GO typed GOOO. -/
theorem test_go : slipsOf [6, 14] [6, 14, 14, 14] =
    [slip .extra 0 3 none (some 14), slip .extra 0 4 none (some 14)] := by decide

/-! ## The worked sequences of chapter 3 -/

/-- A word record of these letters and strain, FRESH in its history but for the counts. -/
def word (ls : List Letter) (strain judged right : Nat) : WordRecord :=
  derived 48 { newRecord with spelling := ls, wordClip := 1, enabled := true, strain := strain,
                              judged := judged, right := right }

/-- The current word slot with this try number and these hints. -/
def asked (i tryNo hints : Nat) : Current :=
  { word := i, tryNo := tryNo, hints := hints, spelledOut := false, lastVerdict := none }

/-- FRIEND over two tries: 20, then 28, then 27, the streak of 2 lost (3.9). -/
theorem test_friend_strain :
    (wrongUpdate Params.defaults 1 { word [5] 20 6 4 with streak := 2 }).strain = 28 ∧
    (rightUpdate Params.defaults (rightCredit (asked 12 2 0)) (word [5] 28 7 4)).strain = 27 := by
  decide
/-- The bench at 250: strain 256, credit 16, BENCHED (3.9). -/
theorem test_bench_at_250 :
    let r := derived 48 (wrongUpdate Params.defaults 1 (word [5] 250 19 6))
    r.strain = 256 ∧ r.standing = .benched ∧ r.credit = 16 ∧ r.judged = 20 ∧ r.right = 6 := by decide
/-- The hint clamp at 255 (3.9). -/
theorem test_hint_clamp : (hintUpdate (word [5] 252 0 0)).strain = 254 ∧
    (hintUpdate (word [5] 254 0 0)).strain = 255 ∧ (hintUpdate (word [5] 255 0 0)).strain = 255 := by
  decide
/-- Mastery at strain 16 with streak 3, and not at strain 18 (3.9). -/
theorem test_mastery :
    (derived 48 (rightUpdate Params.defaults 2 { word [5] 18 2 2 with streak := 2 })).standing =
      .mastered ∧
    (derived 48 (rightUpdate Params.defaults 2 { word [5] 20 2 2 with streak := 2 })).standing =
      .practice := by decide

/-! ## The worked arithmetic of chapter 8 -/

/-- x = 20000, trim +3, e = 31 saturates at 32767; x = −100 gives −13; a PCM8 sample of 100 gives
813, and 0 at step 0 (8.2). -/
theorem test_samples : outputSample 31 3 20000 = 32767 ∧ saturates 31 3 20000 = true ∧
    outputSample 22 0 (-100) = -13 ∧ outputSample 18 (-2) (sampleValue .pcm8 ⟨100#8, 0xFF#8⟩) = 813 ∧
    outputSample 0 (-2) (sampleValue .pcm8 ⟨100#8, 0#8⟩) = 0 := by decide
/-- A PCM16 sample's two bytes, least significant first: 20 4E is 20000, 9C FF is −100 (R191). -/
theorem test_pcm16_bytes : sampleValue .pcm16 ⟨0x20#8, 0x4E#8⟩ = 20000 ∧
    sampleValue .pcm16 ⟨0x9C#8, 0xFF#8⟩ = -100 := by decide
/-- The effective steps of R146's table. -/
theorem test_steps :
    let o := { State.reset.out with load := .speaker }
    let h := { State.reset.out with load := .phones }
    effectiveStep Params.defaults o = 22 ∧ effectiveStep Params.defaults h = 18 ∧
    effectiveStep Params.defaults { h with trimDown := 3 } = 15 ∧
    effectiveStep { Params.defaults with volume := 4 } { o with trimDown := 8 } = 1 ∧
    effectiveStep { Params.defaults with volume := 0 } o = 0 ∧
    effectiveStep { Params.defaults with volume := 31 } State.reset.out = 0 := by decide

/-! ## Debounce (R92), loads (R154) and frames (11.1) -/

/-- With DEBOUNCE 15 a key first read down at 2 ms is accepted 16 ms later, at 18 ms (R92). -/
theorem test_debounce :
    (debounce 15 16 true { down := false, timer := some 2 }).accepted = false ∧
    (debounce 15 18 true { down := false, timer := some 2 }).accepted = true := by decide
/-- The limits of the load kinds: 2, 12 and 1000 ohms (R154). -/
theorem test_loads : loadOf 1999 = .openLoad ∧ loadOf 2000 = .speaker ∧ loadOf 11999 = .speaker ∧
    loadOf 12000 = .phones ∧ loadOf 1000000 = .phones ∧ loadOf 1000001 = .openLoad := by decide
/-- The bytes of the STARTED notice as begun at reset are those of its frame. -/
theorem test_started : ∀ (r : LinkRate) (c : ResetCause),
    startedBytes r c = (Notice.started r c).frame.bytes := by
  intro r c; cases r <;> cases c <;> decide
/-- A HELLO with tag 7: A5, length 0, kind 01, tag 07, and a check byte that makes the sum 0. -/
theorem test_hello_frame :
    (requestFrame 7#8 .hello).bytes = [0xA5#8, 0x00#8, 0x01#8, 0x07#8, 0xF8#8] := by decide

/-! ## States that meet the statements' hypotheses -/

/-- After the reset's probe and STARTED: the link idle, the player IDLE, a SPEAKER found. -/
def quiet : State :=
  { State.reset with
    link := { State.reset.link with tx := none, report := [] }
    speech := { queue := [], player := .idle }
    out := { State.reset.out with probe := .idle, load := .speaker } }

/-- A directory of one clip, which every role names. -/
def oneClip : ClipStore :=
  { dir := .ok, count := 1, roles := Vector.replicate 70 1, spi := none }

/-- A flash whose one directory entry has this coding, trim byte and sample count, from address
0. -/
def flashOf (coding trim count : Byte) : List Byte :=
  List.replicate 149 0#8 ++ [0#8, 0#8, 0#8, count, 0#8, 0#8, coding, trim]

/-- The flash of that directory. -/
def oneFlash : List Byte := flashOf 0#8 0#8 2#8

/-- CAT with strain 20, judged 3 times. -/
def cat : WordRecord := word [2, 0, 19] 20 3 2

/-- A state with CAT in slots 3 and 95 and a good directory. -/
def loaded (s : State) : State :=
  { s with bank := setSlot (setSlot s.bank 3 (some cat)) 95 (some cat), clips := oneClip, flash := oneFlash }

/-- A lesson with CAT of slot 3 current on try 1, in this phase, and slot 95 queued. -/
def lesson (ph : Phase) : State :=
  { loaded quiet with
    drill := { mode := .drill, phase := ph, reason := .noReason, queue := [95],
               current := some (asked 3 1 0), praise := 0, script := [], attempt := [] }
    keys := { quiet.keys with firstScan := false } }

/-- A lesson in PAUSED with this reason. -/
def paused (r : Reason) : State :=
  { lesson .paused with drill := { (lesson .paused).drill with reason := r } }

/-- A lesson in LISTEN with these letters typed, the ATTENTION TIMER running. -/
def listening (ls : List Letter) : State :=
  { lesson .listen with
    drill := { (lesson .listen).drill with attempt := ls }
    attn := { elapsed := 0, stage := 0, lastLetter := none, running := true } }

/-- An entry of one clip with this class and gap. -/
def entry (c : EntryClass) (gap : Nat) : Entry :=
  { clip := 1, cls := c, gap := gap, skippable := false, scripted := false }

/-- A SAID entry of the request with this tag, last or not. -/
def said (tag : Byte) (last : Bool) (o : SayOutcome) : Entry := entry (.said tag last o) 0

/-- Clip 1 in PLAY. -/
def clip1 : Playing :=
  { clip := 1, coding := .pcm8, trim := 0, count := 2, handed := 0, refused := false }

/-- A state with this speech. -/
def speaking (q : List Entry) (p : Player) (s : State) : State :=
  { s with speech := { queue := q, player := p } }

/-- A state whose transmitter sends a reply. -/
def replying (s : State) : State :=
  { s with link := { s.link with
      tx := some { isReply := true, bytes := [] }
      reply := some { kind := 0x81#8, tag := 0#8, payload := [] } } }

/-- A state asleep, as a key of the attention pause would find it. -/
def sleeping (s : State) : State :=
  { s with power := { s.power with power := .sleep }, speech := { queue := [], player := .idle } }

/-- Sleeping, with the settle mark set by a key. -/
def settling (s : State) : State :=
  { sleeping s with power :=
      { (sleeping s).power with settle := true, wakeReason := .key, wakeKey := some (.go, 26) } }

theorem slot_loaded (s : State) (i : Nat) : (loaded s).bank.slot i =
    if i = 95 ∨ i = 3 then some cat else s.bank.slot i := by
  simp only [loaded, slot_setSlot]
  by_cases h : i = 95 <;> by_cases h' : i = 3 <;> simp_all

theorem slot_quiet (i : Nat) : quiet.bank.slot i = none := by
  simp [quiet, State.reset, State.afterReset, WordBank.slot]

/-- Every record of a loaded bank is CAT. -/
theorem slot_loaded_quiet {i : Nat} {r : WordRecord} (h : (loaded quiet).bank.slot i = some r) :
    r = cat := by
  rw [slot_loaded, slot_quiet] at h
  split at h <;> simp_all

theorem cat_ok : RecordOk cat := by constructor <;> decide

/-! ## Witnesses: each statement's hypotheses are met, clause by clause -/

theorem wit_EmptyQueueIsATick : quiet.pending = [] := rfl

/-- Every buffer full and every count at its top. -/
def full : State :=
  { quiet with
    link := { quiet.link with
      report := List.replicate 16 .overrun
      frames := [{ kind := 1#8, tag := 0#8, payload := List.replicate 250 0#8 }]
      rx := .frame [0xA5#8] }
    keys := { quiet.keys with fifo := List.replicate 8 .mash }
    speech := { queue := List.replicate 12 (entry .cue 0), player := .held }
    drill := { quiet.drill with attempt := List.replicate 16 0 }
    out := { quiet.out with trimDown := 8, clipCount := 127 } }

theorem wit_CapacitiesKept : Capacities full ∧ ∃ t, step full = .next t :=
  ⟨by constructor <;> decide, _, rfl⟩

theorem wit_LessonOkKept : LessonOk (listening [2]) ∧ ∃ t, step (listening [2]) = .next t := by
  refine ⟨?_, _, rfl⟩
  have slot : ∀ i r, (listening [2]).bank.slot i = some r → r = cat := fun i r h =>
    slot_loaded_quiet h
  constructor
  · intro x; cases x <;> decide
  · intro i r h; rw [slot i r h]; exact cat_ok
  · decide
  · decide
  · decide
  · decide
  · decide
  · decide
  · decide
  · intro c h
    obtain rfl : c = asked 3 1 0 := by
      simp [listening, lesson] at h; exact h.symm
    refine ⟨cat, by decide, ?_⟩
    decide
  · decide

theorem asleep_paused : Asleep (sleeping (paused .attention)) := by constructor <;> decide

theorem wit_AsleepChangesNothing : Asleep (sleeping (paused .attention)) ∧
    endsSleep (.slowKeyScan 0x4000000#48) = false ∧
    ∃ t, exec (.slowKeyScan 0x4000000#48) (sleeping (paused .attention)) = .next t :=
  ⟨asleep_paused, rfl, _, rfl⟩

/-- FREE mode with three letters typed. -/
def free : State :=
  { loaded quiet with
    drill := { quiet.drill with mode := .free, attempt := [2, 0, 19] }
    keys := { quiet.keys with firstScan := false } }

theorem wit_FreeTypingJudgesNothing : free.drill.mode = .free ∧ free.drill.phase = .noPhase ∧
    speechOrKeys (.keyScan 0x4000000#48) = true ∧
    ∃ t, exec (.keyScan 0x4000000#48) free = .next t := ⟨rfl, rfl, rfl, _, rfl⟩

theorem wit_EventsComeToRest :
    let w := (speaking (List.replicate 12 (entry .cue 0)) .idle
      { listening [2] with keys := { quiet.keys with fifo := List.replicate 8 (.key .go 26) } }).begin
    (∀ i r, w.st.bank.slot i = some r → r.spelling.length ≤ 12) ∧
    w.st.keys.fifo.length ≤ Config.fifoPlaces ∧
    w.st.speech.queue.length ≤ Config.utterancePlaces ∧ w.st.drill.script.length ≤ 17 := by
  refine ⟨fun i r h => ?_, by decide, by decide, by decide⟩
  rw [slot_loaded_quiet h]; decide

theorem wit_RequestFramesAreReadBack : (Request.say 200#8 (List.replicate 8 1023#16)).wellFormed = true ∧
    requestLengthOk (.say 200#8 (List.replicate 8 1023#16)) = true ∧
    (Request.say 0#8 (List.replicate 9 1#16)).wellFormed = true ∧
    requestLengthOk (.say 0#8 (List.replicate 9 1#16)) = false := by decide

theorem wit_RequestRowsAreTheirBytes :
    (Instr.wordPut 5#8 (write [0x43#8])).request? = some (5#8, .wordPut (write [0x43#8])) ∧
    (Request.wordPut (write [0x43#8])).wellFormed = true := by decide

/-- The receiver in this state. -/
def receiving (rx : Receiver) : State := { quiet with link := { quiet.link with rx := rx } }

theorem wit_HuntingAndDiscards :
    (quiet.power.power = .active ∧ quiet.link.rx = .hunt ∧ 0xA4#8 ≠ 0xA5#8 ∧
      quiet.link.held < Config.receiveBytes) ∧
    (receiving .discardSilence).link.rx = .discardSilence ∧
    (receiving .wakeLength).link.rx = .wakeLength ∧
    (receiving (.wakeDiscard 1)).link.rx = .wakeDiscard 1 := by decide

/-- The receiver in this state behind a checked frame with a payload of this length. -/
def crowded (n : Nat) (rx : Receiver) : State :=
  { quiet with link := { quiet.link with
      rx := rx, frames := [{ kind := 1#8, tag := 0#8, payload := List.replicate n 0#8 }] } }

theorem wit_BrokenFramesAreReported :
    ((crowded 251 .hunt).power.power = .active ∧
      Config.receiveBytes ≤ (crowded 251 .hunt).link.held ∧
      Config.receiveBytes ≤ (crowded 250 (.frame [0xA5#8])).link.held ∧
      Config.receiveBytes ≤ (crowded 249 (.frame [0xA5#8, 0#8])).link.held ∧
      Config.receiveBytes ≤ (crowded 247 (.frame [0xA5#8, 0#8, 1#8, 0#8])).link.held ∧
      [0#8].length + 4 = 5 + (0#8 : Byte).toNat ∧
      (receiving .discardLength).link.rx = .discardLength ∧
      (receiving (.discard 1)).link.rx = .discard 1) ∧
    (∀ rx ∈ [Receiver.frame [0xA5#8], .frame [0xA5#8, 0#8, 1#8, 0#8], .frame [0xA5#8, 0#8, 1#8]],
      (receiving rx).power.power = .active ∧ (receiving rx).link.rx = rx) ∧
    ((receiving (.frame [0xA5#8])).link.held < Config.receiveBytes ∧ 250 < (251#8 : Byte).toNat) ∧
    ((receiving (.frame [0xA5#8, 0#8, 1#8, 0#8])).link.held < Config.receiveBytes ∧
      byteSum (0#8 :: 1#8 :: 0#8 :: ([] ++ [0#8])) ≠ 0#8) ∧
    (let s := { receiving (.frame [0xA5#8, 0#8, 1#8]) with link :=
        { (receiving (.frame [0xA5#8, 0#8, 1#8])).link with
          frames := [{ kind := 1#8, tag := 0#8, payload := List.replicate 248 0#8 }] } };
      Config.receiveBytes ≤ s.link.held ∧ ([] : List Byte).length + 4 < 5 + (0#8 : Byte).toNat) ∧
    (receiving (.frame [0xA5#8, 0#8])).power.power = .active := by decide

theorem wit_NoticesLeaveOldestFirst : State.reset.link.tx =
      some { isReply := false, bytes := startedBytes .r57600 .power } := rfl

theorem wit_RepliesEmptyTheSlot :
    (∃ f, (replying quiet).link.tx = some f ∧ f.isReply = true) ∧
    (replying quiet).power.power = .active ∧ (replying quiet).power.sleepPending = false ∧
    (replying quiet).link.resetPending = none ∧ (replying quiet).link.frames = [] ∧
    (let s := { replying quiet with link := { (replying quiet).link with
        frames := [{ kind := 1#8, tag := 2#8, payload := [] }] } };
      s.link.frames = [{ kind := 1#8, tag := 2#8, payload := [] }]) :=
  ⟨⟨_, rfl, rfl⟩, rfl, rfl, rfl, rfl, rfl⟩

theorem wit_UnknownKindsAreAnswered : ready quiet = true ∧ requestKinds.contains 0x00#8 = false ∧
    requestKinds.contains 0x51#8 = false := by decide

/-- A PAUSE frame of one byte too many and a WORD_PUT_IF of 9 bytes, each but its check byte; rows of
nine clips and of 13 letters. -/
theorem wit_UnknownKindsAreAnswered_lengths :
    (let s := receiving (.frame [0xA5#8, 1#8, 0x25#8, 7#8, 0#8]);
      canTake s = true ∧ s.link.frames = [] ∧ ([0#8] : List Byte).length = (1#8 : Byte).toNat ∧
      s.link.held < Config.receiveBytes ∧
      byteSum (1#8 :: 0x25#8 :: 7#8 :: ([0#8] ++ [0xD3#8])) = 0#8 ∧
      requestKinds.contains 0x25#8 = true ∧ payloadGood 0x25#8 [0#8] = false) ∧
    (let s := receiving (.frame (0xA5#8 :: 9#8 :: 0x11#8 :: 7#8 :: List.replicate 9 0#8));
      canTake s = true ∧ s.link.held < Config.receiveBytes ∧
      byteSum (9#8 :: 0x11#8 :: 7#8 :: (List.replicate 9 0#8 ++ [0xDF#8])) = 0#8 ∧
      requestKinds.contains 0x11#8 = true ∧ payloadGood 0x11#8 (List.replicate 9 0#8) = false) ∧
    ((Instr.say 5#8 0#8 (List.replicate 9 1#16)).request? =
        some (5#8, .say 0#8 (List.replicate 9 1#16)) ∧
      lengthGood 0x40#8 (requestPayload (.say 0#8 (List.replicate 9 1#16))).length = false ∧
      lengthGood 0x10#8
        (requestPayload (.wordPut (write (List.replicate 13 0x41#8)))).length = false) := by decide

/-- Frames of a good length whose fields do not agree with it, and which of their neighbours pass: a
RESET with option 3; a QUEUE_LOAD with form 2, and with the group form and 3 bytes; a WORD_PUT_IF of
11 bytes that gives a spelling length of 2 (R187, R189). -/
theorem wit_UnknownKindsAreAnswered_fields :
    (∀ x ∈ [(0x03#8, [3#8], 0xF2#8), (0x20#8, [2#8, 1#8], 0xD4#8),
        (0x20#8, [1#8, 1#8, 1#8], 0xD3#8),
        (0x11#8, List.replicate 9 0#8 ++ [2#8, 0x41#8], 0x9A#8)],
      let n : Byte := byte x.2.1.length
      let s := receiving (.frame (0xA5#8 :: n :: x.1 :: 7#8 :: x.2.1))
      canTake s = true ∧ s.link.frames = [] ∧ x.2.1.length = n.toNat ∧
      s.link.held < Config.receiveBytes ∧ byteSum (n :: x.1 :: 7#8 :: (x.2.1 ++ [x.2.2])) = 0#8 ∧
      requestKinds.contains x.1 = true ∧ lengthGood x.1 x.2.1.length = true ∧
      payloadGood x.1 x.2.1 = false) ∧
    payloadGood 0x03#8 [2#8] = true ∧ payloadGood 0x20#8 [0#8] = true ∧
    payloadGood 0x20#8 [1#8, 1#8] = true ∧
    payloadGood 0x11#8 (List.replicate 9 0#8 ++ [1#8, 0x41#8]) = true := by decide

theorem wit_PendingResetsAreApplied : ∀ k : ResetKind,
    let s := { replying quiet with link := { (replying quiet).link with resetPending := some k } }
    (∃ f, s.link.tx = some f ∧ f.isReply = true) ∧ s.power.power = .active ∧
    s.power.sleepPending = false ∧ s.link.resetPending = some k ∧ s.link.frames = [] :=
  fun _ => ⟨⟨_, rfl, rfl⟩, rfl, rfl, rfl, rfl⟩

theorem wit_ResetAndSleepWaitOnTheirReplies : ready quiet = true ∧ quiet.drill.mode = .setup ∧
    ready (paused .request) = true ∧ (paused .request).drill.phase = .paused ∧
    ready (lesson .finished) = true ∧ (lesson .finished).drill.phase = .finished ∧
    ready free = true ∧ free.drill.mode = .free ∧ ready (lesson .listen) = true ∧
    (lesson .listen).drill.phase = .listen ∧
    ({ quiet.link with resetPending := some .soft }).resetPending.isSome = true := by decide

theorem wit_HelloGetAndNoticeMask : ready quiet = true ∧ Param.ofId 0x00#8 = none ∧
    Param.ofId 0x14#8 = none ∧ Param.ofId 0x01#8 = some .triesMax ∧
    Param.ofId 0x13#8 = some .lessonLimit ∧ (0x3FFF#16).toNat < 2 ^ 14 ∧
    2 ^ 14 ≤ (0x4000#16).toNat := by decide

theorem wit_StatusAndAudioGetReport : ready quiet = true := by decide

theorem wit_SetClampsAndWrites : ready quiet = true ∧ Param.ofId 0x14#8 = none ∧
    Param.ofId 0x04#8 = some .warnLimit ∧ Param.live .warnLimit = false ∧
    quiet.drill.mode = .setup ∧ ready free = true ∧ free.drill.mode ≠ .setup ∧
    Param.ofId 0x11#8 = some .volume ∧ Param.live .volume = true := by decide

theorem wit_WordPutWrites : ready quiet = true ∧ quiet.drill.mode = .setup ∧
    (write [0x63#8]).spelling.length ≤ 12 ∧ checkWrite quiet.clips (write [0x63#8]) = some [2] ∧
    checkWrite quiet.clips (write []) = none ∧ quiet.bank.slot 3 = none ∧
    ready (loaded quiet) = true ∧ (loaded quiet).bank.slot 3 = some cat ∧
    checkWrite (loaded quiet).clips (write [0x63#8]) = some [2] ∧
    ready free = true ∧ free.drill.mode ≠ .setup := by decide

theorem wit_WordPutIfNeedsItsReservation : ready (lesson .listen) = true := by decide

/-- A WORD_PUT_IF of 13 letters is BAD_ARG, and the reservation is consumed (R16, R176). -/
theorem test_long_putIf_consumes :
    (match exec (.wordPutIf 5#8 (write (List.replicate 13 0x41#8)))
        { quiet with bank := { quiet.bank with reservation := some 3 } } with
     | .next t => decide (t.bank.reservation = none) &&
         decide (t.link.reply.map (·.payload) = some [0x02#8])
     | _ => false) = true := by decide

theorem wit_WordGetReservesAndDropEmpties : ready quiet = true ∧ 96 ≤ (96#8 : Byte).toNat ∧
    (95#8 : Byte).toNat < 96 ∧ quiet.bank.slot 95 = none ∧ quiet.drill.mode = .setup ∧
    ready (loaded quiet) = true ∧ (loaded quiet).bank.slot 95 = some cat ∧
    ready free = true ∧ free.drill.mode ≠ .setup := by decide

theorem wit_WrongAttemptsRaiseStrain :
    let w := (listening [2, 19]).begin
    w.st.drill.mode = .drill ∧ w.st.drill.phase = .listen ∧
    w.st.drill.current = some (asked 3 1 0) ∧ w.st.bank.slot 3 = some cat ∧
    w.st.drill.attempt ≠ [] ∧ w.st.drill.attempt ≠ cat.spelling := by decide

theorem wit_RightAttemptsEarnCredit :
    let w := (listening [2, 0, 19]).begin
    w.st.drill.mode = .drill ∧ w.st.drill.phase = .listen ∧
    w.st.drill.current = some (asked 3 1 0) ∧ w.st.bank.slot 3 = some cat ∧
    w.st.drill.attempt ≠ [] ∧ w.st.drill.attempt = cat.spelling ∧ cat.strain < 256 := by decide

/-- The bench of 3.9: a queue of 30 words with word 3 current, words 5 and 20 ready, word 14 not
enabled. -/
def benchState : State :=
  let s := listening [2, 0, 19]
  let benched := { word [5] 256 9 3 with credit := 1 }
  { s with
    bank := setSlot (setSlot (setSlot s.bank 5 (some benched)) 20 (some benched)) 14
      (some { benched with enabled := false, credit := 3 })
    drill := { s.drill with queue := (List.range 30).map (· + 40) } }

theorem wit_RightJudgementsReturnBenchedWords :
    benchState.drill.mode = .drill ∧ benchState.drill.phase = .listen ∧
    benchState.drill.current = some (asked 3 1 0) ∧ benchState.bank.slot 3 = some cat ∧
    benchState.drill.attempt ≠ [] ∧ benchState.drill.attempt = cat.spelling ∧
    cat.strain < 256 := by decide

/-- Word 5 takes the last place; word 20 finds none and waits at credit 0; word 14 is passed over
(3.9). -/
theorem test_bench_returns :
    let t := (takeEvent (.key .go 26) benchState.begin).st
    t.drill.queue = (List.range 30).map (· + 40) ++ [5] ∧
    (t.bank.slot 5).map (·.standing) = some .shaky ∧ (t.bank.slot 5).map (·.strain) = some 48 ∧
    (t.bank.slot 20).map (·.credit) = some 0 ∧ (t.bank.slot 20).map (·.standing) = some .benched ∧
    (t.bank.slot 14).map (·.credit) = some 2 := by decide

theorem wit_HintsRevealAndCost :
    (listening []).drill.mode = .drill ∧ (listening []).drill.phase = .listen ∧
    (listening []).drill.current = some (asked 3 1 0) ∧ (listening []).bank.slot 3 = some cat ∧
    (asked 3 1 1).hints + 1 < cat.spelling.length ∧ cat.spelling[1]? = some 0 ∧
    (listening []).speech.queue.length + 2 ≤ 12 ∧
    cat.spelling.length ≤ (asked 3 1 2).hints + 1 := by decide

/-- The first HINT on CAT at strain 46, the role table holding position + 1: STARTS_WITH, clip 60, and
the name of C, clip 3, and PRACTICE becomes SHAKY at 48 (R50, R73). -/
theorem test_hint_speaks :
    let s := listening []
    let w := takeEvent (.key .hint 28) (State.begin { s with
      bank := setSlot s.bank 3 (some (word [2, 0, 19] 46 3 2))
      clips := { oneClip with roles := Vector.ofFn fun i => i.val + 1 } })
    w.st.speech.queue.map (·.clip) = [60, 3] ∧
    w.raised = [.standing 3 .practice .shaky 48] := by decide

theorem wit_JudgementRecordsAreRead : ready quiet = true ∧ quiet.judge.capture = none ∧
    (let c : CaptureRecord := { word := 3, tryNo := 1, first := slip .extra 0 3 none (some 0), total := 1 };
     let s := { quiet with judge := { last := none, capture := some c } };
     ready s = true ∧ s.judge.capture = some c) := by decide

theorem wit_QueueLoadBuilds : ready quiet = true ∧ quiet.drill.mode = .setup ∧
    ready (lesson .finished) = true ∧ (lesson .finished).drill.phase = .finished ∧
    ready free = true ∧ free.drill.mode = .free ∧
    (List.replicate 33 3#8).length ≤ 249 ∧ 32 < (List.replicate 33 3#8).length ∧
    (∃ b ∈ [96#8], 96 ≤ (b : Byte).toNat) ∧ (List.replicate 32 95#8).length ≤ 32 ∧
    (∀ b ∈ List.replicate 32 95#8, (b : Byte).toNat < 96) := by decide

theorem wit_QueueAddAndQueueGet : ready (loaded quiet) = true := by decide

/-- SETUP with slot 95 queued. -/
def queued : State := { loaded quiet with drill := { quiet.drill with queue := [95] } }

theorem wit_StartEntersOpening :
    (ready queued = true ∧ queued.drill.mode = .setup ∧ queued.clips.dir = .ok ∧
      queued.out.tripped = false ∧ queued.drill.queue ≠ [] ∧ queued.drill.script = [] ∧
      queued.speech.queue = []) ∧
    (ready free = true ∧ free.drill.mode ≠ .setup) ∧
    (ready quiet = true ∧ quiet.drill.mode = .setup ∧ quiet.clips.dir ≠ .ok) ∧
    (let s := { queued with out := { queued.out with tripped := true } };
      ready s = true ∧ s.out.tripped = true) ∧
    (ready (loaded quiet) = true ∧ (loaded quiet).drill.queue = []) := by decide

/-- START where a probe runs, where none does with the player IDLE, and where an entry plays. -/
theorem wit_StartEntersOpening_probe :
    (let s := { queued with
        speech := { queue := [], player := .held }, out := { queued.out with probe := .running } };
      ready s = true ∧ s.drill.queue ≠ [] ∧ s.out.probe = .running) ∧
    (queued.out.probe ≠ .running ∧ queued.speech.player = .idle) ∧
    (let s := speaking [entry (.said 1#8 true .played) 0] (.play clip1) queued;
      ready s = true ∧ s.out.probe ≠ .running ∧ s.speech.player = .play clip1) := by decide

theorem wit_FreeStartEntersFree :
    (ready (loaded quiet) = true ∧ (loaded quiet).drill.mode = .setup ∧
      (loaded quiet).clips.dir = .ok) ∧
    (ready quiet = true ∧ quiet.clips.dir ≠ .ok) ∧
    (ready free = true ∧ free.drill.mode ≠ .setup) := by decide

theorem wit_StopReturnsToSetup : (ready quiet = true ∧ quiet.drill.mode = .setup) ∧
    (ready (lesson .feedback) = true ∧ (lesson .feedback).drill.mode = .drill) ∧
    (ready free = true ∧ free.drill.mode = .free ∧ free.drill.script = []) := by decide

/-- Host speech behind a CUE: the CUE playing, or the host speech HELD by a probe; and host speech
playing before an ECHO. -/
def hostSpeech (s : State) : List State :=
  [speaking [entry .cue 0, said 1#8 false .played, said 1#8 true .played] (.play clip1) s,
   speaking [said 1#8 true .played, entry .echo 0] (.play clip1) s,
   speaking [entry .cue 0, said 1#8 true .played] .held s]

theorem wit_FlushedTo :
    (∀ ph ∈ [Phase.opening, .listen], ∀ s ∈ hostSpeech (lesson ph),
      ready s = true ∧ atRest s = true ∧
      nextPlayer s s.out.probe [said 1#8 false .played, said 1#8 true .played] =
        some (.play clip1)) ∧
    ((hostSpeech free).map fun s => decide (ready s = true ∧ atRest s = true ∧
      s.drill.script = [])) = [true, true, true] ∧
    ((hostSpeech free).map (·.speech.player.playing)) = [true, true, false] := by decide

/-- A STOP in LISTEN cuts the CUE that plays, and the host speech behind it plays on (R60, R138). -/
theorem test_stop_keeps_host_speech :
    (match exec (.stop 0#8) (speaking
        [entry .cue 0, said 1#8 false .played, entry .prompt 0, said 1#8 true .played] (.play clip1)
        (lesson .listen)) with
     | .next t => decide (t.speech = { queue := [said 1#8 false .played, said 1#8 true .played],
                                       player := .play clip1 }) &&
         decide (t.link.report = [.phase .setup .noPhase .noReason none])
     | _ => false) = true := by decide

theorem wit_PauseKeepsOrSettles :
    (ready (lesson .finished) = true ∧ ¬ ((lesson .finished).drill.mode = .drill ∧
      (lesson .finished).drill.phase ∈ [Phase.opening, .present, .listen, .feedback, .spellout])) ∧
    ∀ ph ∈ [Phase.opening, .present, .listen, .feedback, .spellout],
      ready (lesson ph) = true ∧ (lesson ph).drill.mode = .drill ∧ (lesson ph).drill.phase = ph := by
  decide

theorem wit_ResumeByReason :
    (ready quiet = true ∧ quiet.drill.mode ≠ .drill) ∧
    (let s := { paused .timeUp with
        params := { Params.defaults with lessonLimit := 1 }
        lesson := { seconds := 60, part := 0, timeUp := true } };
      ready s = true ∧ s.drill.mode = .drill ∧ s.drill.phase = .paused ∧
      s.drill.reason = .timeUp ∧ 0 < s.params.lessonLimit ∧
      s.params.lessonLimit * 60 ≤ s.lesson.seconds) ∧
    (let s := { paused .audio with out := { quiet.out with tripped := true } };
      ready s = true ∧ s.drill.phase = .paused ∧ s.drill.reason = .audio ∧ s.out.tripped = true) ∧
    (let s := { lesson .finished with out := { quiet.out with load := .openLoad } };
      ready s = true ∧ s.drill.mode = .drill ∧ s.drill.phase = .finished ∧ s.out.load = .openLoad) ∧
    (let s := { lesson .finished with drill := { (lesson .finished).drill with queue := [] } };
      ready s = true ∧ s.drill.phase = .finished ∧ s.out.tripped = false ∧
      s.out.load ≠ .openLoad ∧ s.drill.queue = []) ∧
    (ready (paused .audio) = true ∧ (paused .audio).drill.mode = .drill ∧
      (paused .audio).out.tripped = false ∧ (paused .audio).drill.script = []) ∧
    (let s := speaking (List.replicate 10 (entry .cue 0)) .held (paused .attention);
      ready s = true ∧ s.drill.phase = .paused ∧ s.drill.reason = .attention ∧
      s.drill.current = some (asked 3 1 0) ∧ s.bank.slot 3 = some cat ∧ playerRests s = true ∧
      s.speech.queue.length + 2 ≤ Config.utterancePlaces ∧
      (∀ e ∈ s.speech.queue, e.scripted = false) ∧ s.speech.player ≠ .idle) ∧
    (ready (paused .request) = true ∧ (paused .request).drill.phase = .paused ∧
      playerRests (paused .request) = true ∧ (paused .request).speech.player = .idle ∧
      nextPlayer (paused .request) .idle
        [firstPrompt (paused .request).clips false cat] = some (.play clip1)) := by decide

/-- RESUME from AUDIO where a probe runs, where none does with the player IDLE, and where an entry
plays. -/
theorem wit_ResumeByReason_probe :
    (let s := { paused .audio with
        speech := { queue := [], player := .held }, out := { quiet.out with probe := .running } };
      ready s = true ∧ s.drill.reason = .audio ∧ s.out.tripped = false ∧ s.out.probe = .running) ∧
    ((paused .audio).out.probe ≠ .running ∧ (paused .audio).speech.player = .idle) ∧
    (let s := speaking [entry (.said 1#8 true .played) 0] (.play clip1) (paused .audio);
      ready s = true ∧ s.out.probe ≠ .running ∧ s.speech.player = .play clip1) := by decide

/-- A pause or the end of a lesson with no word held and this DRILL QUEUE. -/
def between (ph : Phase) (r : Reason) (q : List Nat) : State :=
  { lesson ph with drill := { (lesson ph).drill with reason := r, current := none, queue := q } }

theorem wit_ResumeByReason_no_word :
    (let s := between .paused .request [];
      ready s = true ∧ s.drill.current = none ∧ s.drill.phase = .paused ∧
      s.drill.reason = .request ∧ s.drill.queue = [] ∧ s.drill.script = []) ∧
    (let s := { between .paused .attention [95] with
        lesson := { seconds := 60, part := 0, timeUp := true } };
      ready s = true ∧ s.drill.current = none ∧ s.drill.queue ≠ [] ∧ s.lesson.timeUp = true) ∧
    (∀ s ∈ [between .paused .timeUp [95], between .finished .noReason [95]],
      ready s = true ∧ s.drill.current = none ∧ s.drill.queue = [95] ∧
      ¬ (0 < s.params.lessonLimit ∧ s.params.lessonLimit * 60 ≤ s.lesson.seconds) ∧
      s.out.tripped = false ∧ s.out.load ≠ .openLoad ∧ s.lesson.timeUp = false ∧
      s.bank.slot 95 = some cat ∧ playerRests s = true ∧ s.speech.player = .idle ∧
      nextPlayer s .idle [firstPrompt s.clips false cat] = some (.play clip1)) := by decide

/-- STOP in FREE clears the time-up pending mark (R86). -/
theorem test_stop_in_free_clears_timeUp :
    (match exec (.stop 0#8) { free with lesson := { seconds := 60, part := 0, timeUp := true } } with
     | .next t => decide (t.lesson = { seconds := 60, part := 0, timeUp := false })
     | _ => false) = true := by decide

theorem wit_LessonTimeIsLimited : ready quiet = true ∧
    ∀ ph ∈ [Phase.opening, .present, .listen, .feedback, .spellout],
      (lesson ph).drill.mode = .drill ∧ (lesson ph).power.power = .active ∧
      (lesson ph).drill.phase = ph := by decide

/-- The default key map as KEYMAP sends it. -/
def defaultCodes : List Byte := defaultKeyMap.toList.map KeyCode.code

/-- The 1000th ms and the end of the gap of a silent last entry fall at one tick of a SPELLOUT that
ends in FINISHED: the second is counted (R85). -/
theorem test_second_counted_as_lesson_ends :
    let s := speaking [{ entry .feedback 250 with clip := 0 }] (.gap 249) (lesson .spellout)
    let mastered := { cat with standing := .mastered, latch := true }
    let s1 := { s with
      bank := setSlot s.bank 3 (some mastered), drill := { s.drill with queue := [] }
      lesson := { seconds := 59, part := 999, timeUp := false } }
    (match step s1 with
     | .next a => match step a with
       | .next b => match step b with
         | .next t => decide (t.drill.phase = .finished) && decide (t.pending = []) &&
             decide (t.lesson = { seconds := 60, part := 0, timeUp := false })
         | _ => false
       | _ => false
     | _ => false) = true := by decide

theorem wit_KeymapAndKeysetsReplace :
    (ready quiet = true ∧ quiet.drill.mode = .setup ∧ defaultCodes.length = 48 ∧
      defaultCodes.map KeyCode.ofByte = defaultKeyMap.toList.map some ∧
      (∀ l : Letter, defaultKeyMap.toList.count (.letter l) = 1) ∧
      defaultKeyMap.toList.count .go = 1 ∧ defaultKeyMap.toList.count .back = 1) ∧
    (ready free = true ∧ free.drill.mode ≠ .setup) ∧
    ((List.replicate 48 0x2A#8).length = 48 ∧ ∃ b ∈ List.replicate 48 0x2A#8, KeyCode.ofByte b = none) ∧
    ((Vector.replicate 48 KeyCode.go).toList.count .go ≠ 1) ∧
    ((1#48 <<< 42).getLsbD 42 = true) ∧
    (∀ n, n < 48 → 42 ≤ n → (0x3FFFFFFFFFF#48).getLsbD n = false) := by decide

theorem wit_KeyScansDebounce : quiet.power.power = .active ∧ quiet.keys.firstScan = true ∧
    (lesson .listen).power.power = .active ∧ (lesson .listen).keys.firstScan = false := by decide

/-- LISTEN with position 19, T, read down since the scan at time 0. -/
def pressed : State :=
  { listening [2, 0] with keys := { (listening [2, 0]).keys with
      keys := (listening [2, 0]).keys.keys.set 19 { down := false, timer := some 0 }
      scanTime := 14 } }

theorem wit_LettersAreTyped :
    let ts := testAll pressed.params.debounce (pressed.keys.scanTime + 2) (1#48 <<< 19) pressed.keys.keys
    pressed.power.power = .active ∧ pressed.power.sleepPending = false ∧
    pressed.keys.firstScan = false ∧ pressed.drill.mode = .drill ∧ pressed.drill.phase = .listen ∧
    pressed.drill.current = some (asked 3 1 0) ∧ pressed.bank.slot 3 = some cat ∧
    pressed.drill.script = [] ∧ atRest pressed = true ∧ pressed.drill.attempt.length < 16 ∧
    acceptedAt true ts = [19] ∧ (scanReleases ts pressed.keys).lockout = false ∧
    (scanReleases ts pressed.keys).downCount ≤ 1 ∧ codeAt pressed.keys 19 = .letter 19 ∧
    pressed.keys.accept.getLsbD 19 = true := by decide

/-- A lesson in this phase whose scanner has read these positions down since time 0, with this
down-count. -/
def reading (down : List Nat) (count : Nat) (s : State) : State :=
  { s with keys := { s.keys with
      keys := Vector.ofFn fun i => { down := false, timer := if i.val ∈ down then some 0 else none }
      firstScan := false, scanTime := 14, downCount := count } }

/-- The accepted presses of a scan and the scanner before they are handled. -/
def scanOf (s : State) (levels : BitVec 48) : KeyScanner × List Nat :=
  let ts := testAll s.params.debounce (s.keys.scanTime + 2) levels s.keys.keys
  (scanReleases ts s.keys, acceptedAt true ts)

theorem wit_LettersAreTyped_scans :
    (∀ s ∈ [reading [0, 1, 47] 0 free, reading [0, 1, 47] 0 (lesson .present),
        reading [0, 1, 47] 0 quiet],
      s.power.power = .active ∧ s.keys.firstScan = false ∧
      (scanOf s (7#48 ||| 1#48 <<< 47)).2 = [0, 1, 47] ∧
      (scanOf s (7#48 ||| 1#48 <<< 47)).1.lockout = false ∧
      3 ≤ (scanOf s (7#48 ||| 1#48 <<< 47)).1.downCount + 3) ∧
    (atRest (reading [0, 1, 47] 0 free) = true ∧ atRest (reading [0, 1, 47] 0 quiet) = true) ∧
    (let s := reading [30] 1 free;
      atRest s = true ∧ (scanOf s (1#48 <<< 30)).2 = [30] ∧
      (scanOf s (1#48 <<< 30)).1.lockout = false ∧ (scanOf s (1#48 <<< 30)).1.downCount ≤ 1 ∧
      codeAt s.keys 30 = .panel 0 ∧ inSet s.keys.accept (.panel 0) = true) ∧
    (let s := reading [47] 1 free;
      (scanOf s (1#48 <<< 47)).2 = [47] ∧ inSet s.keys.accept (codeAt s.keys 47) = false) ∧
    ((scanOf (reading [] 1 { free with keys := { free.keys with lockout := true } }) 0#48).1.lockout =
      true) := by decide

theorem wit_LettersAreTyped_events :
    (∀ n ∈ [0, 1, 15, 16],
      let w := (listening (List.replicate n 0)).begin
      w.st.drill.mode = .drill ∧ w.st.drill.phase = .listen ∧
      w.st.drill.current = some (asked 3 1 0) ∧ w.st.bank.slot 3 = some cat ∧
      w.st.drill.attempt.length = n) ∧
    free.drill.mode = .free ∧
    (∀ ph ∈ [Phase.feedback, .spellout, .finished, .paused],
      (lesson ph).drill.mode = .drill ∧ (lesson ph).drill.phase = ph) ∧
    (paused .attention).drill.reason = .attention ∧ (paused .request).drill.reason ≠ .attention := by
  decide

theorem wit_LettersAreTyped_echoes :
    (let s := speaking [entry .cue 0, entry .echo 0, entry .nudge 0] (.play clip1) quiet;
      s.speech.player.playing = true ∧
      s.speech.queue = [entry .cue 0] ++ ([] ++ entry .echo 0 :: [entry .nudge 0]) ∧
      (entry .echo 0).cls = .echo) ∧
    (let s := speaking [entry .echo 0] (.play clip1) quiet;
      s.speech.player.playing = true ∧ s.speech.queue = [entry .echo 0] ++ []) ∧
    (let s := speaking (List.replicate 12 (entry .cue 0)) .held quiet;
      s.speech.player.playing = false ∧ s.speech.queue = [] ++ List.replicate 12 (entry .cue 0) ∧
      ∀ y ∈ List.replicate 12 (entry .cue 0), y.cls ≠ .echo) := by decide

/-- Four events wait as a presentation's last prompt ends, the attempt right: GO is judged, and the
A behind it is discarded under FEEDBACK, though the praise is silent (R71, R75, 4.5). -/
theorem test_events_behind_a_judging_go :
    let s := speaking [entry .prompt 0] (.play { clip1 with handed := 2 })
      { lesson .present with
        clips := { oneClip with roles := Vector.replicate 70 0 }
        drill := { (lesson .present).drill with queue := [] }
        keys := { (lesson .present).keys with fifo :=
          [.key (.letter 2) 2, .key (.letter 0) 0, .key (.letter 19) 19, .key .go 26,
           .key (.letter 0) 0] } }
    (match exec .entryEnd s with
     | .next t => decide (t.keys.fifo = []) && decide (t.judge.last.map (·.verdict) = some .right) &&
         decide (t.drill.queue = []) && decide (t.drill.attempt = [])
     | _ => false) = true := by decide

/-- The attention timer of LISTEN at this stage and elapsed time. -/
def waited (stage elapsed : Nat) (s : State) : State :=
  { s with attn := { elapsed := elapsed, stage := stage, lastLetter := none, running := true } }

theorem wit_AttentionStages :
    (∀ stage ∈ [0, 1],
      let s := waited stage (20000 * (stage + 1))
        (speaking (List.replicate 10 (entry .cue 0)) (.play clip1) (listening []))
      attentionRuns s = true ∧ s.attn.stage ≤ 1 ∧
      (s.attn.stage + 1) * s.params.attnPeriod * 1000 ≤ s.attn.elapsed ∧ s.drill.mode = .drill ∧
      s.drill.phase = .listen ∧ s.drill.current = some (asked 3 1 0) ∧
      s.bank.slot 3 = some cat ∧ s.drill.script = [] ∧ atRest s = true ∧
      s.speech.player ≠ .idle ∧ s.speech.queue.length + 2 ≤ Config.utterancePlaces) ∧
    (let s := waited 0 20000 (listening []);
      atRest s = true ∧ s.speech.player = .idle ∧ playable s cat.wordClip = some clip1 ∧
      playable s (roleClip s.clips .nudge1) = some clip1) ∧
    (let s := waited 0 20000
        { listening [] with clips := { oneClip with roles := Vector.replicate 70 0 } };
      atRest s = true ∧ playable s (roleClip s.clips .nudge1) = none ∧
      playable s cat.wordClip = some clip1) ∧
    (let s := waited 0 20000
        { listening [] with clips := { oneClip with count := 0, roles := Vector.replicate 70 0 } };
      atRest s = true ∧ playable s (roleClip s.clips .nudge1) = none ∧
      playable s cat.wordClip = none) ∧
    (∀ sleep ∈ [0, 1],
      let s := { waited 2 80000 (listening []) with
        params := { Params.defaults with attnSleep := sleep } }
      attentionRuns s = true ∧ s.attn.stage = 2 ∧
      4 * s.params.attnPeriod * 1000 ≤ s.attn.elapsed ∧ s.drill.mode = .drill ∧
      s.drill.phase = .listen ∧ s.power.sleepPending = false ∧ s.params.attnSleep = sleep ∧
      atRest s = true) ∧
    (∀ s ∈ hostSpeech (waited 2 80000 (listening [])),
      attentionRuns s = true ∧ s.attn.stage = 2 ∧ s.params.attnSleep ≠ 1 ∧ atRest s = true) ∧
    ((waited 0 19999 (listening [])).attn.elapsed < 20000 ∧
      (waited 2 79999 (listening [])).attn.elapsed < 80000) := by
  decide

theorem wit_AttentionStages_placing :
    (EntryClass.prompt ≠ .cue ∧ (List.replicate 11 (entry .cue 0)).length < 12 ∧
      12 ≤ (List.replicate 12 (entry .cue 0)).length ∧
      ∀ y ∈ List.replicate 12 (entry .cue 0), y.cls.isSaid = false) ∧
    (let s := speaking (said 1#8 false .played :: said 1#8 true .played ::
        List.replicate 10 (entry .cue 0)) (.play clip1) quiet;
      12 ≤ s.speech.queue.length ∧ s.speech.player.playing = true ∧
      s.speech.queue = [said 1#8 false .played] ++
        ([] ++ said 1#8 true .played :: List.replicate 10 (entry .cue 0))) ∧
    (let s := speaking (List.replicate 10 (entry .cue 0) ++
        [said 1#8 false .played, said 1#8 true .cut]) .held quiet;
      12 ≤ s.speech.queue.length ∧ s.speech.player.playing = false ∧
      s.speech.queue = [] ++ (List.replicate 10 (entry .cue 0) ++
        said 1#8 false .played :: ([] ++ said 1#8 true .cut :: []))) := by decide

/-- A full queue with A1 playing: A2, the last of A, gives way; when A1 then ends refused, request
B's outcome stays PLAYED (R134, R137). -/
theorem test_giveWay_marks_its_own_request :
    let s := speaking (said 1#8 false .played :: said 1#8 true .played :: said 2#8 true .played ::
        List.replicate 9 (entry .cue 0)) (.play { clip1 with handed := 2, refused := true }) quiet
    let w := place (entry .nudge 0) s.begin
    w.raised = [.speechDone 1#8 .flushed] ∧
    (leaveHead .ended w).st.speech.queue.head? = some (said 2#8 true .played) := by decide

/-- An attention pause that waits behind an engagement is not reached (R116). -/
theorem test_engagement_first :
    (match exec .attentionPause (waited 2 0 (listening [2])) with
     | .next t => decide (t.attn.stage = 2) && decide (t.drill.phase = .listen)
     | _ => false) = true := by decide

theorem wit_DirectoryReadsEnd : quiet.clips.dir = .reading := rfl

theorem wit_SayQueuesOrRefuses :
    (ready (loaded quiet) = true ∧ ([] : List Word16).length ≤ 8 ∧ 1023 < (1024#16 : Word16).toNat ∧
      200 < (201#8 : Byte).toNat) ∧
    (ready quiet = true ∧ quiet.clips.dir ≠ .ok) ∧
    ((loaded quiet).clips.dir = .ok ∧ (loaded quiet).clips.count < (2#16 : Word16).toNat) ∧
    (let s := { loaded quiet with out := { quiet.out with load := .openLoad } };
      ready s = true ∧ s.clips.dir = .ok ∧ s.out.load = .openLoad) ∧
    (let s := speaking (List.replicate 12 (entry .cue 0)) .held (loaded quiet);
      ready s = true ∧ s.clips.dir = .ok ∧ s.out.load ≠ .openLoad ∧ s.out.tripped = false ∧
      12 < s.speech.queue.length + 1) ∧
    (let s := speaking (List.replicate 11 (entry .cue 0)) .held (loaded quiet);
      ready s = true ∧ s.speech.queue.length + 1 ≤ 12 ∧ atRest s = true ∧ s.speech.player ≠ .idle) ∧
    (ready (loaded quiet) = true ∧ atRest (loaded quiet) = true ∧
      (loaded quiet).speech.player = .idle ∧ (loaded quiet).out.load ≠ .openLoad ∧
      playable (loaded quiet) 1 = some clip1) := by decide

/-- A lesson in PRESENT with two prompts of its script waiting behind host speech that plays, and one
not yet placed. -/
def presenting : State :=
  let prompt : Entry := { entry .prompt 0 with scripted := true }
  let s := speaking [said 1#8 true .played, prompt, prompt] (.play clip1) (lesson .present)
  { s with drill := { s.drill with script := [clipItem 1 .prompt 0] } }

theorem wit_LessonOkKept_apart : HostSpeechApart presenting ∧ ∃ t, step presenting = .next t :=
  ⟨⟨by decide, by decide⟩, _, rfl⟩

theorem wit_HushRemovesHostSpeech :
    (ready quiet = true ∧ HostSpeechApart quiet ∧
      ∀ e ∈ quiet.speech.queue, e.cls.isSaid = false) ∧
    (ready presenting = true ∧ HostSpeechApart presenting ∧ atRest presenting = true ∧
      presenting.speech.player.playing = true ∧ (said 1#8 true .played).cls.isSaid = true ∧
      nextPlayer presenting presenting.out.probe (presenting.speech.queue.drop 1) =
        some (.play clip1)) :=
  ⟨⟨by decide, ⟨by decide, by decide⟩, by decide⟩,
   by decide, ⟨by decide, by decide⟩, by decide, by decide, by decide, by decide⟩

/-- A HUSH with a CUE playing before host speech, and with host speech playing before a CUE. -/
theorem wit_HushRemovesHostSpeech_orders :
    (let s := speaking [entry .cue 0, said 1#8 false .played, said 1#8 true .played] (.play clip1)
        (loaded quiet);
      ready s = true ∧ s.drill.script = [] ∧ (∀ e ∈ s.speech.queue, e.scripted = false) ∧
      atRest s = true ∧ s.speech.player.playing = true ∧ (entry .cue 0).cls.isSaid = false) ∧
    (let s := speaking [said 1#8 false .played, said 1#8 true .played, entry .cue 0] (.play clip1)
        (loaded quiet);
      ready s = true ∧ atRest s = true ∧ s.speech.player.playing = true ∧
      nextPlayer s s.out.probe [entry .cue 0] = some (.play clip1)) ∧
    (let s := speaking [said 1#8 true .played] (.play clip1) quiet;
      ready s = true ∧ atRest s = true ∧ nextPlayer s s.out.probe [] = some .idle) := by decide

/-- A HUSH that cuts the one entry of request 1 while request 2 waits: CUT, then FLUSHED, and the CUE
between them plays (R136, R137). -/
theorem test_hush_reports :
    (match exec (.hush 0#8) { speaking [said 1#8 true .played, entry .cue 0, said 2#8 true .played]
        (.play clip1) (loaded quiet) with pending := [] } with
     | .next t => decide (t.link.report = [.speechDone 1#8 .cut, .speechDone 2#8 .flushed]) &&
         decide (t.speech = { queue := [entry .cue 0], player := .play clip1 })
     | _ => false) = true := by decide

theorem wit_ReloadAndGuardClear :
    (ready (loaded quiet) = true ∧ (loaded quiet).drill.mode = .setup ∧
      (loaded quiet).clips.dir = .ok ∧ (loaded quiet).speech.queue = [] ∧
      (loaded quiet).speech.player = .idle) ∧
    (ready quiet = true ∧ quiet.clips.dir = .reading) ∧
    (ready State.reset = true ∧ State.reset.out.probe = .running) ∧
    (let s := speaking [entry .cue 0] (.play clip1) (loaded quiet);
      ready s = true ∧ s.out.probe ≠ .running ∧ s.speech.player ≠ .idle ∧ atRest s = true) ∧
    (ready quiet = true ∧ quiet.out.probe ≠ .running ∧ quiet.speech.player = .idle ∧
      atRest quiet = true) := by decide

theorem wit_GapsEndInPlay :
    (let s := speaking [entry .cue 100] (.gap 100) (loaded quiet);
      atRest s = true ∧ playable s 1 = some clip1) ∧
    (let s := speaking [{ entry (.said 1#8 true .played) 100 with clip := 2 }] (.gap 100) (loaded quiet);
      atRest s = true ∧ playable s 2 = none ∧
      playable s (roleClip s.clips .notNow) = some clip1) ∧
    (∀ s ∈ [free, lesson .listen],
      let s := speaking [{ entry .cue 100 with clip := 0 }] (.gap 100) s
      atRest s = true ∧ playable s 0 = none ∧ s.drill.script = [] ∧
      stillSpeaks s.drill.phase [] = true ∧
      nextPlayer s s.out.probe [] = some .idle) ∧
    (let s := speaking [{ entry .echo 0 with clip := 0, gap := 1 }, entry .prompt 0] (.gap 1)
        (lesson .present);
      atRest s = true ∧ stillSpeaks s.drill.phase [entry .prompt 0] = true ∧
      nextPlayer s s.out.probe [entry .prompt 0] = some (.play clip1)) ∧
    (let s := speaking [{ entry .prompt 250 with clip := 2 }] (.gap 250) (lesson .present);
      atRest s = true ∧ playable s 2 = none ∧ s.drill.mode = .drill ∧
      s.drill.phase = .present ∧ s.drill.script = [] ∧ s.keys.fifo = []) := by decide

/-- A directory entry is usable with trim -6 and +3, and not with -7, +4, no samples or coding 2
(R131). -/
theorem test_playable_bounds :
    (∀ trim ∈ [0xFA#8, 0x03#8], (playable ((loaded quiet).withFlash (flashOf 1#8 trim 1#8)) 1).isSome) ∧
    (∀ flash ∈ [flashOf 0#8 0xF9#8 1#8, flashOf 0#8 0x04#8 1#8, flashOf 0#8 0#8 0#8,
        flashOf 2#8 0#8 1#8],
      playable ((loaded quiet).withFlash flash) 1 = none) ∧
    playable (loaded quiet) 2 = none ∧ playable (loaded quiet) 0 = none := by decide

/-- A flash rewritten since the last directory read plays its new entry (R130, 7.11). -/
theorem test_rewritten_flash_plays :
    (match exec .gapEnd
        ((speaking [entry .cue 100] (.gap 100) (loaded quiet)).withFlash (flashOf 1#8 3#8 9#8)) with
     | .next t => decide (t.speech.player =
         .play { clip1 with coding := .pcm16, trim := 3, count := 9 })
     | _ => false) = true := by decide

theorem wit_StepsAndMultipliers :
    (let o := { quiet.out with trimDown := 8 };
      Params.defaults.volume ≠ 0 ∧ o.tripped = false ∧ o.load = .speaker ∧
      1 ≤ Params.defaults.capSpeaker) ∧
    State.reset.out.load = .openLoad := by decide

theorem wit_SamplesAreScaled :
    (speaking [entry .cue 0] (.play clip1) quiet).speech.player = .play clip1 ∧
    clip1.handed < clip1.count := by decide

/-- Clip 1 with all its samples handed over. -/
def done1 : Playing := { clip1 with handed := 2 }

theorem wit_ClippedEntriesAreCounted :
    (clip1.handed < clip1.count ∧ done1.count ≤ done1.handed) ∧
    (let s := speaking [entry .cue 0, entry .nudge 100] (.play done1) (lesson .listen);
      s.speech.player = .play done1 ∧ s.drill.script = [] ∧ s.keys.fifo = [] ∧
      stillSpeaks s.drill.phase [entry .nudge 100] = true ∧
      nextPlayer s s.out.probe [entry .nudge 100] = some (.gap 0)) ∧
    (let s := speaking [said 1#8 true .cut] (.play done1) quiet;
      s.speech.player = .play done1 ∧ nextPlayer s s.out.probe [] = some .idle) ∧
    (let s := { speaking [said 1#8 false .played, entry .cue 0, said 1#8 true .played]
          (.play { done1 with refused := true }) quiet with
        out := { quiet.out with probe := .requested } };
      s.drill.script = [] ∧ s.keys.fifo = [] ∧ stillSpeaks s.drill.phase [] = true ∧
      nextPlayer s s.out.probe [entry .cue 0, said 1#8 true .played] = some .held ∧
      ∀ y ∈ [entry .cue 0], ∀ g q, y.cls ≠ .said g true q) ∧
    (let s := speaking [entry .prompt 0] (.play done1) (lesson .present);
      s.speech.player = .play done1 ∧ s.drill.mode = .drill ∧ s.drill.phase = .present ∧
      s.drill.script = [] ∧ s.keys.fifo = []) := by
  refine ⟨by decide, by decide, by decide, ?_, by decide⟩
  refine ⟨rfl, rfl, rfl, by decide, ?_⟩
  intro y hy g q h
  simp only [List.mem_singleton] at hy
  subst hy; cases h

/-- A lesson in this phase, the word judged so. -/
def judged (ph : Phase) (v : Verdict) : State :=
  { lesson ph with drill := { (lesson ph).drill with
      current := some { asked 3 1 0 with lastVerdict := some v } } }

theorem wit_ClippedEntriesAreCounted_phases :
    (lesson .present).drill.phase = .present ∧
    ((judged .feedback .wrong).drill.phase = .feedback ∧
      (judged .feedback .wrong).drill.current = some { asked 3 1 0 with lastVerdict := some .wrong }) ∧
    (∀ s ∈ [judged .spellout .wrong, judged .feedback .right],
      s.speech.queue.length < 12 ∧ settledQueue s = [95, 3] ∧ s.lesson.timeUp = false ∧
      s.bank.slot 95 = some cat) ∧
    (let s := { judged .feedback .right with
        bank := setSlot quiet.bank 3 (some { cat with standing := .mastered })
        drill := { (judged .feedback .right).drill with queue := [] } };
      s.drill.phase = .feedback ∧ settledQueue s = [] ∧
      ∀ c, s.drill.current = some c → c.lastVerdict ≠ some .wrong) ∧
    (let s := { judged .spellout .wrong with lesson := { seconds := 60, part := 0, timeUp := true } };
      s.drill.phase = .spellout ∧ s.speech.queue.length < 12 ∧ settledQueue s = [95, 3] ∧
      s.lesson.timeUp = true) := by
  refine ⟨rfl, by decide, by decide, ?_, by decide⟩
  refine ⟨rfl, by decide, ?_⟩
  rintro c ⟨⟩
  decide

theorem wit_JackChangesAskForAProbe :
    (quiet.power.power = .active ∧ Jack.inserted ≠ quiet.out.jack ∧ atRest quiet = true ∧
      quiet.out.probe ≠ .running ∧ quiet.speech.player = .idle) ∧
    (atRest State.reset = true ∧ Jack.inserted ≠ State.reset.out.jack ∧
      State.reset.out.probe = .running) ∧
    (let s := speaking [entry .cue 0] (.play clip1) quiet;
      atRest s = true ∧ s.out.probe ≠ .running ∧ s.speech.player ≠ .idle) := by decide

/-- A state whose probe runs, with the player held. -/
def probing (s : State) : State :=
  { s with speech := { s.speech with player := .held }, out := { s.out with probe := .running } }

theorem wit_ProbeResultsReachTheDrill :
    (∀ ph ∈ [Phase.opening, .present, .listen, .feedback, .spellout],
      (probing (lesson ph)).out.probe = .running ∧ (probing (lesson ph)).speech.player = .held ∧
      (probing (lesson ph)).drill.phase.underWay = true ∧ (probing (lesson ph)).out.stale = false) ∧
    (let s := probing (paused .request);
      s.out.probe = .running ∧ s.speech.player = .held ∧ s.drill.phase = .paused ∧
      s.drill.script = [] ∧ s.keys.fifo = []) ∧
    (let s := { probing (lesson .opening) with
        out := { (probing (lesson .opening)).out with stale := true, oneMore := true } };
      s.out.probe = .running ∧ s.speech.player = .held ∧ s.drill.mode = .drill ∧
      s.drill.phase = .opening ∧ s.out.stale = true ∧ s.out.oneMore = true ∧
      s.drill.script = []) ∧
    loadOf 1999 = .openLoad ∧ loadOf 1000001 = .openLoad := by decide

theorem wit_ProbeResultsReachTheDrill_opening :
    (probing quiet).drill.mode = .setup ∧ (probing quiet).drill.phase = .noPhase ∧
    (let s := probing (lesson .opening);
      s.drill.mode = .drill ∧ s.drill.phase = .opening ∧ s.out.stale = false ∧
      s.drill.current = some (asked 3 1 0) ∧ s.bank.slot 3 = some cat ∧ s.out.oneMore = false ∧
      nextPlayer s .idle (s.speech.queue ++ [firstPrompt s.clips false cat]) =
        some (.play clip1)) ∧
    (let s := probing (between .opening .noReason []);
      s.drill.current = none ∧ s.drill.queue = [] ∧ s.drill.script = []) ∧
    (let s := { probing (between .opening .noReason [95]) with
        lesson := { seconds := 60, part := 0, timeUp := true } };
      s.drill.current = none ∧ s.drill.queue ≠ [] ∧ s.lesson.timeUp = true) ∧
    (let s := { probing (between .opening .noReason [95]) with
        out := { (probing (lesson .opening)).out with oneMore := true } };
      s.drill.queue = [95] ∧ s.lesson.timeUp = false ∧ s.bank.slot 95 = some cat ∧
      s.out.oneMore = true) ∧
    loadOf 2000 = .speaker ∧ loadOf 12000 = .phones ∧ loadOf 1000000 = .phones := by decide

/-- A probe ends OPENING with 12 host entries behind it: the two entries of the presentation are placed
while the player is HELD, so the head and the one behind it, the oldest waiting, give way, and the
player then takes the third (R69, R134, R154). -/
theorem test_probe_presents_before_held_ends :
    let host := (List.range 12).map fun i => said (byte i) true .played
    let struggling := word [2, 0, 19] 130 3 2
    let s := probing (speaking host .held (lesson .opening))
    (match exec (.loadProbeDone 8000) { s with bank := setSlot s.bank 3 (some struggling) } with
     | .next t => decide (t.speech.queue.take 10 = host.drop 2) &&
         decide (t.speech.queue.length = 12) && decide (t.speech.player = .play clip1) &&
         decide (t.link.report = [.load .speaker .speaker .out,
           .phase .drill .present .noReason (some 3), .speechDone 0#8 .flushed,
           .speechDone 1#8 .flushed])
     | _ => false) = true := by decide

theorem wit_SurgesReduceOrTrip :
    (∀ p, quiet.speech.player ≠ .play p) ∧
    (let s := speaking [entry .cue 0] (.play clip1) quiet;
      s.speech.player = .play clip1 ∧ s.out.tripped = false ∧ 1 ≤ effectiveStep s.params s.out ∧
      s.out.surges + 1 < s.params.surgeLimit) ∧
    (let s := { speaking [entry .cue 0] (.play clip1) quiet with
        out := { quiet.out with surges := 1 } };
      s.speech.player = .play clip1 ∧ s.out.tripped = false ∧ 1 ≤ effectiveStep s.params s.out ∧
      s.params.surgeLimit ≤ s.out.surges + 1 ∧ s.params.surgeAction ≠ 1 ∧
      s.drill.phase = .noPhase ∧ s.drill.script = [] ∧ s.keys.fifo = []) ∧
    (let s := { speaking [entry .cue 0] (.play clip1) (lesson .listen) with
        out := { quiet.out with surges := 1, trimDown := 7 }
        params := { Params.defaults with surgeAction := 1 } };
      s.params.surgeLimit ≤ s.out.surges + 1 ∧ s.params.surgeAction = 1 ∧ s.out.trimDown < 8 ∧
      1 ≤ effectiveStep s.params s.out) ∧
    (let s := { speaking [entry .cue 0] (.play clip1) (lesson .listen) with
        out := { quiet.out with surges := 1, trimDown := 8 }
        params := { Params.defaults with surgeAction := 1 } };
      s.params.surgeLimit ≤ s.out.surges + 1 ∧ ¬ s.out.trimDown < 8 ∧
      s.drill.phase.underWay = true ∧ 1 ≤ effectiveStep s.params s.out) ∧
    (∀ s ∈ [paused .request, paused .audio, lesson .finished],
      let s := { speaking [said 1#8 true .played] (.play clip1) s with
        out := { quiet.out with surges := 1 } }
      s.speech.player = .play clip1 ∧ s.out.tripped = false ∧ 1 ≤ effectiveStep s.params s.out ∧
      s.params.surgeLimit ≤ s.out.surges + 1 ∧ s.params.surgeAction ≠ 1 ∧
      s.drill.phase.underWay = false ∧ s.drill.script = [] ∧ s.keys.fifo = []) := by
  refine ⟨?_, by decide, by decide, by decide, by decide, by decide⟩
  intro p h; cases h

/-- A trip in PAUSED with host speech playing: GUARD, SPEECH_DONE with CUT, then PHASE with reason
AUDIO (R159). -/
theorem test_trip_in_paused :
    (match exec .surgeEvent { speaking [said 1#8 true .played] (.play clip1) (paused .request) with
        out := { quiet.out with surges := 1 } } with
     | .next t => decide (t.link.report = [.guard true 0 1, .speechDone 1#8 .cut,
         .phase .drill .paused .audio (some 3)])
     | _ => false) = true := by decide

theorem wit_SleepIsEntered :
    (let s := { replying (paused .request) with
        power := { quiet.power with sleepPending := true } };
      (∃ f, s.link.tx = some f ∧ f.isReply = true) ∧ s.power.sleepPending = true ∧
      s.link.frames = [] ∧ s.link.rx = .hunt ∧ s.clips.dir ≠ .reading) ∧
    (let s := { replying quiet with
        power := { quiet.power with sleepPending := true }
        link := { (replying quiet).link with rx := .frame [0xA5#8] } };
      (∃ f, s.link.tx = some f ∧ f.isReply = true) ∧ s.power.sleepPending = true ∧
      (∃ bs, s.link.rx = .frame bs) ∧ s.clips.dir = .reading) :=
  ⟨⟨⟨_, rfl, rfl⟩, rfl, rfl, rfl, by decide⟩, ⟨_, rfl, rfl⟩, rfl, ⟨_, rfl⟩, rfl⟩

theorem wit_KeysAndFramesWake :
    let s := { sleeping quiet with keys := { quiet.keys with
        keys := quiet.keys.keys.set 26 { down := false, timer := some 0 } } }
    s.power.power = .sleep ∧ s.power.settle = false ∧ s.link.rx = .hunt ∧ 0xA4#8 ≠ 0xA5#8 ∧
    inSet s.keys.wakeSet (codeAt s.keys 0) = false ∧
    acceptedAt true (slowTests s.params.debounce (s.keys.scanTime + 32) 0#48 s.keys) = [] ∧
    acceptedAt true (slowTests s.params.debounce (s.keys.scanTime + 32) (1#48 <<< 26) s.keys) =
      [26] := by decide

theorem wit_SettlesEnd :
    (Asleep (settling (paused .attention)) ∧ (settling (paused .attention)).power.settle = true ∧
      (settling (paused .attention)).link.resetPending = none ∧
      (settling (paused .attention)).link.frames = [] ∧
      (settling (paused .attention)).drill.script = [] ∧
      (settling (paused .attention)).keys.fifo = [] ∧
      (settling (paused .attention)).power.wakeReason = .key ∧
      (settling (paused .attention)).drill.mode = .drill ∧
      (settling (paused .attention)).drill.current = some (asked 3 1 0) ∧
      (settling (paused .attention)).bank.slot 3 = some cat) ∧
    (Asleep (settling (paused .request)) ∧
      (settling (paused .request)).drill.reason ≠ .attention ∧
      (settling (paused .request)).drill.phase = .paused) :=
  ⟨⟨by constructor <;> decide, by decide⟩, by constructor <;> decide, by decide⟩

/-- A waking GO brings CAT back with WELCOME_BACK first, and the letters typed stay (9.8, R170). -/
theorem test_waking_key_resumes :
    (match exec (.wakeSettleEnd .out) (settling (paused .attention)) with
     | .next t => decide (t.drill.phase = .present) && decide (t.speech.queue.length = 2) &&
         decide (t.link.report = [.wake .key (some (.go, 26)), .phase .drill .present .noReason (some 3)])
     | _ => false) = true := by decide

end Sys2Proof.Tests
end

section

/-! PROOFS. Judging an attempt (chapter 2): the slip list is that of the walk (O29), and the two
reads of the JUDGE's records (O34). -/

namespace Sys2Proof.Machine

open Sys2Proof

/-! ## The letters left from a position on -/

/-- The letters of `ls` from position `p` on, counted from 1, are `left`. -/
def LeftFrom (ls : List Letter) (p : Nat) (left : List Letter) : Prop :=
  1 ≤ p ∧ ls.drop (p - 1) = left

theorem leftFrom_one (ls : List Letter) : LeftFrom ls 1 ls := ⟨Nat.le.refl, rfl⟩

theorem LeftFrom.tail {ls left : List Letter} {p : Nat} (h : LeftFrom ls p left) :
    LeftFrom ls (p + 1) left.tail := by
  obtain ⟨hp, rfl⟩ := h
  refine ⟨by omega, ?_⟩
  rw [List.tail_drop, Nat.sub_add_cancel hp, Nat.add_sub_cancel]

theorem LeftFrom.letterAt_eq {ls left : List Letter} {p : Nat} (h : LeftFrom ls p left) :
    letterAt ls (some p) = left.head? := by
  obtain ⟨hp, rfl⟩ := h
  obtain ⟨k, rfl⟩ := Nat.exists_eq_add_of_le' hp
  simp [letterAt]

theorem LeftFrom.letterAt_cons {ls more : List Letter} {p : Nat} {l : Letter}
    (h : LeftFrom ls p (l :: more)) : letterAt ls (some p) = some l :=
  h.letterAt_eq

theorem LeftFrom.length_eq {ls left : List Letter} {p : Nat} (h : LeftFrom ls p left) :
    left.length = ls.length + 1 - p := by
  obtain ⟨hp, rfl⟩ := h
  rw [List.length_drop]; omega

/-- A position within the word leaves at least its own letter. -/
theorem LeftFrom.exists_cons {ls left : List Letter} {p : Nat} (h : LeftFrom ls p left)
    (hp : p ≤ ls.length) : ∃ l more, left = l :: more :=
  List.exists_cons_of_length_pos (by rw [h.length_eq]; omega)

/-- A letter left stands within the word. -/
theorem LeftFrom.le_length {ls more : List Letter} {p : Nat} {l : Letter}
    (h : LeftFrom ls p (l :: more)) : p ≤ ls.length := by
  have hlen : more.length + 1 = ls.length + 1 - p := h.length_eq
  omega

/-- There is a letter at a position exactly when it lies within the word. -/
theorem letterAt_isSome {ls : List Letter} {p : Nat} (hp : 1 ≤ p) :
    (letterAt ls (some p)).isSome = true ↔ p ≤ ls.length := by
  obtain ⟨k, rfl⟩ := Nat.exists_eq_add_of_le' hp
  rw [letterAt, Option.isSome_iff_ne_none, Ne, List.getElem?_eq_none_iff]
  omega

/-! ## The tests of the walk, read on the letters left (R26 to R28) -/

section Tests
variable {target attempt ts as : List Letter} {i j : Nat} {t a : Letter}

theorem swappedAt_iff (ht : LeftFrom target i (t :: ts)) (ha : LeftFrom attempt j (a :: as)) :
    SwappedAt target attempt i j ↔ as.head? = some t ∧ ts.head? = some a := by
  have hlt : ts.length + 1 = target.length + 1 - i := ht.length_eq
  have hla : as.length + 1 = attempt.length + 1 - j := ha.length_eq
  have hts : letterAt target (some (i + 1)) = ts.head? := ht.tail.letterAt_eq
  have has : letterAt attempt (some (j + 1)) = as.head? := ha.tail.letterAt_eq
  rw [SwappedAt, ht.letterAt_eq, ha.letterAt_eq, hts, has]
  constructor
  · rintro ⟨-, -, hx, hy⟩
    exact ⟨hx.symm, hy⟩
  · rintro ⟨hx, hy⟩
    have := List.length_pos_of_mem (List.mem_of_head? hx)
    have := List.length_pos_of_mem (List.mem_of_head? hy)
    exact ⟨by omega, by omega, hx.symm, hy⟩

theorem extraAt_iff (ht : LeftFrom target i (t :: ts)) (ha : LeftFrom attempt j (a :: as)) :
    ExtraAt target attempt i j ↔ as.head? = some t ∧ ts.length < as.length := by
  have hlt : ts.length + 1 = target.length + 1 - i := ht.length_eq
  have hla : as.length + 1 = attempt.length + 1 - j := ha.length_eq
  have has : letterAt attempt (some (j + 1)) = as.head? := ha.tail.letterAt_eq
  rw [ExtraAt, ht.letterAt_eq, has, List.head?_cons]
  constructor
  · rintro ⟨-, hx, hlen⟩
    exact ⟨hx, by omega⟩
  · rintro ⟨hx, hlen⟩
    exact ⟨by omega, hx, by omega⟩

theorem missingAt_iff (ht : LeftFrom target i (t :: ts)) (ha : LeftFrom attempt j (a :: as)) :
    MissingAt target attempt i j ↔ ts.head? = some a ∧ as.length < ts.length := by
  have hlt : ts.length + 1 = target.length + 1 - i := ht.length_eq
  have hla : as.length + 1 = attempt.length + 1 - j := ha.length_eq
  have hts : letterAt target (some (i + 1)) = ts.head? := ht.tail.letterAt_eq
  rw [MissingAt, ha.letterAt_eq, hts, List.head?_cons]
  constructor
  · rintro ⟨-, hx, hlen⟩
    exact ⟨hx, by omega⟩
  · rintro ⟨hx, hlen⟩
    exact ⟨by omega, hx, by omega⟩

theorem letterAt_eq_iff (ht : LeftFrom target i (t :: ts)) (ha : LeftFrom attempt j (a :: as)) :
    letterAt target (some i) = letterAt attempt (some j) ↔ t = a := by
  simp [ht.letterAt_eq, ha.letterAt_eq]

end Tests

/-! ## The model's list is the walk's -/

/-- A slip of a kind that names the letters at these positions. -/
def slipAt (target attempt : List Letter) (kind : SlipKind) (p q : Option Nat) : Slip :=
  { kind := kind, targetPos := p, typedPos := q, expected := letterAt target p,
    typed := letterAt attempt q }

theorem missingFrom_eq {target left : List Letter} {i : Nat} (attempt : List Letter)
    (h : LeftFrom target i left) :
    missingFrom i left = (List.range' i (target.length + 1 - i)).map fun p =>
      slipAt target attempt .missing (some p) none := by
  rw [← h.length_eq]
  induction left generalizing i with
  | nil => rfl
  | cons l more ih =>
    rw [missingFrom, ih h.tail, List.length_cons, List.range'_succ, List.map_cons, slipAt,
      h.letterAt_eq]
    rfl

theorem extraFrom_eq {attempt left : List Letter} {j : Nat} (target : List Letter)
    (h : LeftFrom attempt j left) :
    extraFrom j left = (List.range' j (attempt.length + 1 - j)).map fun p =>
      slipAt target attempt .extra none (some p) := by
  rw [← h.length_eq]
  induction left generalizing j with
  | nil => rfl
  | cons l more ih =>
    rw [extraFrom, ih h.tail, List.length_cons, List.range'_succ, List.map_cons, slipAt,
      h.letterAt_eq]
    rfl

/-- The slips of R30: those of the letters left over on both sides, one of which has run out. -/
def leftovers (target attempt : List Letter) (i j : Nat) : List Slip :=
  ((List.range' i (target.length + 1 - i)).map fun p =>
    slipAt target attempt .missing (some p) none) ++
  (List.range' j (attempt.length + 1 - j)).map fun p => slipAt target attempt .extra none (some p)

theorem leftovers_eq {target attempt ts as : List Letter} {i j : Nat} (ht : LeftFrom target i ts)
    (ha : LeftFrom attempt j as) :
    leftovers target attempt i j = missingFrom i ts ++ extraFrom j as := by
  rw [leftovers, ← missingFrom_eq attempt ht, ← extraFrom_eq target ha]

/-- The steps of `alignFrom` are those of the walk: with fuel for every letter, one side runs out
before the fuel does. -/
theorem walk_alignFrom {target attempt : List Letter} (fuel i j : Nat) (ts as : List Letter)
    (ht : LeftFrom target i ts) (ha : LeftFrom attempt j as)
    (hf : ts.length + as.length ≤ fuel) :
    Walk target attempt i j (alignFrom fuel i j ts as) := by
  fun_induction alignFrom fuel i j ts as with
  | case1 fuel i j as =>
    have hlen : 0 = target.length + 1 - i := ht.length_eq
    have hw : Walk target attempt i j (leftovers target attempt i j) := .ends (.inl (by omega))
    rwa [leftovers_eq ht ha] at hw
  | case2 fuel i j ts hts =>
    have hlen : 0 = attempt.length + 1 - j := ha.length_eq
    have hw : Walk target attempt i j (leftovers target attempt i j) := .ends (.inr (by omega))
    rwa [leftovers_eq ht ha, extraFrom, List.append_nil] at hw
  | case3 i j ts as hts has =>
    exact absurd (List.length_pos_iff.mpr hts) (by omega)
  | case4 i j fuel t ts as ih =>
    rw [List.length_cons, List.length_cons] at hf
    exact .same ht.le_length ha.le_length ((letterAt_eq_iff ht ha).mpr rfl)
      (ih ht.tail ha.tail (by omega))
  | case5 i j fuel t ts a as hne hsw ih =>
    rw [List.length_cons, List.length_cons] at hf
    rw [← ht.letterAt_cons, ← ha.letterAt_cons]
    exact .swapped (mt (letterAt_eq_iff ht ha).mp hne) ((swappedAt_iff ht ha).mpr hsw)
      (ih ht.tail.tail ha.tail.tail (by simp only [List.length_tail]; omega))
  | case6 i j fuel t ts a as hne hsw hex ih =>
    rw [List.length_cons, List.length_cons] at hf
    rw [← ha.letterAt_cons]
    exact .extra ht.le_length (mt (letterAt_eq_iff ht ha).mp hne) (mt (swappedAt_iff ht ha).mp hsw)
      ((extraAt_iff ht ha).mpr hex) (ih ht ha.tail (by rw [List.length_cons]; omega))
  | case7 i j fuel t ts a as hne hsw hex hmi ih =>
    rw [List.length_cons, List.length_cons] at hf
    rw [← ht.letterAt_cons]
    exact .missing ha.le_length (mt (letterAt_eq_iff ht ha).mp hne)
      (mt (swappedAt_iff ht ha).mp hsw) (mt (extraAt_iff ht ha).mp hex)
      ((missingAt_iff ht ha).mpr hmi) (ih ht.tail ha (by rw [List.length_cons]; omega))
  | case8 i j fuel t ts a as hne hsw hex hmi ih =>
    rw [List.length_cons, List.length_cons] at hf
    rw [← ht.letterAt_cons, ← ha.letterAt_cons]
    exact .substitute ht.le_length ha.le_length (mt (letterAt_eq_iff ht ha).mp hne)
      (mt (swappedAt_iff ht ha).mp hsw) (mt (extraAt_iff ht ha).mp hex)
      (mt (missingAt_iff ht ha).mp hmi) (ih ht.tail ha.tail (by omega))

/-- Where one side has run out, `alignFrom` records the leftover letters (R30). -/
theorem alignFrom_leftovers (fuel i j : Nat) {ts as : List Letter} (h : ts = [] ∨ as = []) :
    alignFrom fuel i j ts as = missingFrom i ts ++ extraFrom j as := by
  obtain rfl | rfl := h
  · rw [alignFrom, missingFrom, List.nil_append]
  · cases ts with
    | nil => rw [alignFrom, missingFrom, List.nil_append]
    | cons t ts => rw [alignFrom, extraFrom, List.append_nil]; simp

/-- Within both words there are a letter on each side and fuel for a step. -/
theorem exists_step {target attempt ts as : List Letter} {i j fuel : Nat}
    (ht : LeftFrom target i ts) (ha : LeftFrom attempt j as) (hi : i ≤ target.length)
    (hj : j ≤ attempt.length) (hf : ts.length + as.length ≤ fuel) :
    ∃ t ts' a as' fuel', ts = t :: ts' ∧ as = a :: as' ∧ fuel = fuel' + 1 ∧
      ts'.length + as'.length + 1 ≤ fuel' := by
  obtain ⟨t, ts, rfl⟩ := ht.exists_cons hi
  obtain ⟨a, as, rfl⟩ := ha.exists_cons hj
  rw [List.length_cons, List.length_cons] at hf
  exact ⟨t, ts, a, as, fuel - 1, rfl, rfl, by omega, by omega⟩

/-- What a walk records is what `alignFrom` lists: each step of the walk is the branch that
`alignFrom` takes. -/
theorem Walk.eq_alignFrom {target attempt : List Letter} {i j : Nat} {slips : List Slip}
    (h : Walk target attempt i j slips) {fuel : Nat} {ts as : List Letter}
    (ht : LeftFrom target i ts) (ha : LeftFrom attempt j as) (hf : ts.length + as.length ≤ fuel) :
    slips = alignFrom fuel i j ts as := by
  induction h generalizing fuel ts as with
  | @ends i j hend =>
    have hempty : ts = [] ∨ as = [] := hend.imp
      (fun hi => List.eq_nil_of_length_eq_zero (by rw [ht.length_eq]; omega))
      (fun hj => List.eq_nil_of_length_eq_zero (by rw [ha.length_eq]; omega))
    rw [alignFrom_leftovers fuel i j hempty, ← leftovers_eq ht ha]
    rfl
  | same hi hj heq _ ih =>
    obtain ⟨t, ts, a, as, fuel, rfl, rfl, rfl, hf⟩ := exists_step ht ha hi hj hf
    rw [alignFrom, if_pos ((letterAt_eq_iff ht ha).mp heq)]
    exact ih ht.tail ha.tail (by omega)
  | swapped hne hsw _ ih =>
    have ⟨hi, hj, _⟩ := hsw
    obtain ⟨t, ts, a, as, fuel, rfl, rfl, rfl, hf⟩ :=
      exists_step ht ha (Nat.le_of_lt hi) (Nat.le_of_lt hj) hf
    rw [alignFrom, if_neg (mt (letterAt_eq_iff ht ha).mpr hne),
      if_pos ((swappedAt_iff ht ha).mp hsw), ht.letterAt_cons, ha.letterAt_cons,
      ih (fuel := fuel) ht.tail.tail ha.tail.tail
        (by simp only [List.tail_cons, List.length_tail]; omega)]
    rfl
  | extra hi hne hsw hex _ ih =>
    obtain ⟨t, ts, a, as, fuel, rfl, rfl, rfl, hf⟩ := exists_step ht ha hi (Nat.le_of_lt hex.1) hf
    rw [alignFrom, if_neg (mt (letterAt_eq_iff ht ha).mpr hne),
      if_neg (mt (swappedAt_iff ht ha).mpr hsw), if_pos ((extraAt_iff ht ha).mp hex),
      ha.letterAt_cons,
      ih (fuel := fuel) ht ha.tail (by simp only [List.tail_cons, List.length_cons]; omega)]
    rfl
  | missing hj hne hsw hex hmi _ ih =>
    obtain ⟨t, ts, a, as, fuel, rfl, rfl, rfl, hf⟩ := exists_step ht ha (Nat.le_of_lt hmi.1) hj hf
    rw [alignFrom, if_neg (mt (letterAt_eq_iff ht ha).mpr hne),
      if_neg (mt (swappedAt_iff ht ha).mpr hsw), if_neg (mt (extraAt_iff ht ha).mpr hex),
      if_pos ((missingAt_iff ht ha).mp hmi), ht.letterAt_cons,
      ih (fuel := fuel) ht.tail ha (by simp only [List.tail_cons, List.length_cons]; omega)]
    rfl
  | substitute hi hj hne hsw hex hmi _ ih =>
    obtain ⟨t, ts, a, as, fuel, rfl, rfl, rfl, hf⟩ := exists_step ht ha hi hj hf
    rw [alignFrom, if_neg (mt (letterAt_eq_iff ht ha).mpr hne),
      if_neg (mt (swappedAt_iff ht ha).mpr hsw), if_neg (mt (extraAt_iff ht ha).mpr hex),
      if_neg (mt (missingAt_iff ht ha).mpr hmi), ht.letterAt_cons, ha.letterAt_cons,
      ih (fuel := fuel) ht.tail ha.tail (by simp only [List.tail_cons]; omega)]
    rfl

/-- An attempt that equals the target is matched letter by letter. -/
theorem alignFrom_self (fuel i j : Nat) {ls : List Letter} (hf : ls.length ≤ fuel) :
    alignFrom fuel i j ls ls = [] := by
  induction ls generalizing fuel i j with
  | nil => rw [alignFrom, extraFrom]
  | cons l more ih =>
    rw [List.length_cons] at hf
    obtain ⟨fuel, rfl⟩ := Nat.exists_eq_add_of_le' (show 1 ≤ fuel by omega)
    rw [alignFrom, if_pos rfl, ih _ _ _ (by omega)]

/-- Equality (R24) is no case apart: the list is that of the walk. -/
theorem slipsOf_eq_alignFrom (target attempt : List Letter) :
    slipsOf target attempt = alignFrom (target.length + attempt.length) 1 1 target attempt := by
  rw [slipsOf]
  split
  · next h => rw [h, alignFrom_self _ _ _ (by omega)]
  · rfl

theorem walk_slipsOf (target attempt : List Letter) :
    Walk target attempt 1 1 (slipsOf target attempt) :=
  slipsOf_eq_alignFrom target attempt ▸
    walk_alignFrom _ 1 1 _ _ (leftFrom_one target) (leftFrom_one attempt) Nat.le.refl

theorem walk_iff_slipsOf {target attempt : List Letter} {slips : List Slip} :
    Walk target attempt 1 1 slips ↔ slips = slipsOf target attempt :=
  ⟨fun h => (h.eq_alignFrom (leftFrom_one target) (leftFrom_one attempt) Nat.le.refl).trans
      (slipsOf_eq_alignFrom target attempt).symm,
    fun h => h ▸ walk_slipsOf target attempt⟩

/-! ## When there are no slips, and how many there can be (R24, R32) -/

/-- Only a match records no slip, and letters left over are slips. -/
theorem eq_of_alignFrom_eq_nil (fuel i j : Nat) (ts as : List Letter)
    (h : alignFrom fuel i j ts as = []) : as = ts := by
  fun_induction alignFrom fuel i j ts as with
  | case1 _ _ j as =>
    cases as with
    | nil => rfl
    | cons a as => exact absurd h (List.cons_ne_nil _ _)
  | case2 _ i _ ts hts | case3 i _ ts _ hts =>
    cases ts with
    | nil => exact absurd rfl hts
    | cons t ts => exact absurd h (List.cons_ne_nil _ _)
  | case4 i j fuel t ts as ih => rw [ih h]
  | _ => exact absurd h (List.cons_ne_nil _ _)

theorem slipsOf_eq_nil {target attempt : List Letter} :
    slipsOf target attempt = [] ↔ attempt = target :=
  ⟨fun h => eq_of_alignFrom_eq_nil _ _ _ _ _ ((slipsOf_eq_alignFrom target attempt).symm.trans h),
    fun h => if_pos h⟩

theorem verdictOf_eq_right {target attempt : List Letter} :
    verdictOf target attempt = .right ↔ attempt = target := by
  simp [verdictOf]

/-- An EXTRA slip is recorded only while the attempt has more letters left, a MISSING slip only
while the target has, so every slip takes a letter of the longer side. -/
theorem Walk.length_le {target attempt : List Letter} {i j : Nat} {slips : List Slip}
    (h : Walk target attempt i j slips) :
    slips.length ≤ max (target.length + 1 - i) (attempt.length + 1 - j) := by
  induction h with
  | ends hend =>
    simp only [List.length_append, List.length_map, List.length_range']
    omega
  | same hi hj _ _ ih => omega
  | swapped _ hsw _ ih =>
    obtain ⟨hi, hj, -⟩ := hsw
    rw [List.length_cons]; omega
  | extra hi _ _ hex _ ih =>
    obtain ⟨hj, -, hlen⟩ := hex
    rw [List.length_cons]; omega
  | missing hj _ _ _ hmi _ ih =>
    obtain ⟨hi, -, hlen⟩ := hmi
    rw [List.length_cons]; omega
  | substitute hi hj _ _ _ _ _ ih => rw [List.length_cons]; omega

/-! ## What each slip names (R31) -/

/-- The fields of a slip are those R31 gives its kind: it names the letters at its positions, which
differ, and an EXTRA slip has none of the target, a MISSING slip none of the attempt. -/
def NamesLetters (target attempt : List Letter) (s : Slip) : Prop :=
  s.expected = letterAt target s.targetPos ∧ s.typed = letterAt attempt s.typedPos ∧
  s.expected ≠ s.typed ∧
  (s.targetPos.isSome = true ↔ s.kind ≠ .extra) ∧ (s.expected.isSome = true ↔ s.kind ≠ .extra) ∧
  (s.typedPos.isSome = true ↔ s.kind ≠ .missing) ∧ (s.typed.isSome = true ↔ s.kind ≠ .missing)

section Names
variable {target attempt : List Letter} {i j : Nat}

theorem namesLetters_missing (hi : 1 ≤ i) (hn : i ≤ target.length) :
    NamesLetters target attempt (slipAt target attempt .missing (some i) none) := by
  have hs : (letterAt target (some i)).isSome = true := (letterAt_isSome hi).mpr hn
  exact ⟨rfl, rfl, Option.ne_none_iff_isSome.mpr hs, by simp [slipAt], by simp [slipAt, hs],
    by simp [slipAt], by simp [slipAt, letterAt]⟩

theorem namesLetters_extra (hj : 1 ≤ j) (hm : j ≤ attempt.length) :
    NamesLetters target attempt (slipAt target attempt .extra none (some j)) := by
  have hs : (letterAt attempt (some j)).isSome = true := (letterAt_isSome hj).mpr hm
  exact ⟨rfl, rfl, (Option.ne_none_iff_isSome.mpr hs).symm, by simp [slipAt],
    by simp [slipAt, letterAt], by simp [slipAt], by simp [slipAt, hs]⟩

/-- SWAPPED and SUBSTITUTE name a letter on each side. -/
theorem namesLetters_both {kind : SlipKind} (hke : kind ≠ .extra) (hkm : kind ≠ .missing)
    (hi : 1 ≤ i) (hj : 1 ≤ j) (hn : i ≤ target.length) (hm : j ≤ attempt.length)
    (hne : letterAt target (some i) ≠ letterAt attempt (some j)) :
    NamesLetters target attempt (slipAt target attempt kind (some i) (some j)) := by
  have ht : (letterAt target (some i)).isSome = true := (letterAt_isSome hi).mpr hn
  have ha : (letterAt attempt (some j)).isSome = true := (letterAt_isSome hj).mpr hm
  exact ⟨rfl, rfl, hne, by simp [slipAt, hke], by simp [slipAt, ht, hke], by simp [slipAt, hkm],
    by simp [slipAt, ha, hkm]⟩

theorem namesLetters_leftovers (hi : 1 ≤ i) (hj : 1 ≤ j) {s : Slip}
    (hs : s ∈ leftovers target attempt i j) : NamesLetters target attempt s := by
  rw [leftovers, List.mem_append, List.mem_map, List.mem_map] at hs
  obtain ⟨p, hp, rfl⟩ | ⟨p, hp, rfl⟩ := hs
  · rw [List.mem_range'_1] at hp
    exact namesLetters_missing (by omega) (by omega)
  · rw [List.mem_range'_1] at hp
    exact namesLetters_extra (by omega) (by omega)

end Names

theorem Walk.namesLetters {target attempt : List Letter} {i j : Nat} {slips : List Slip}
    (h : Walk target attempt i j slips) (hi : 1 ≤ i) (hj : 1 ≤ j) :
    ∀ s ∈ slips, NamesLetters target attempt s := by
  induction h with
  | ends hend => exact fun s hs => namesLetters_leftovers hi hj hs
  | same _ _ _ _ ih => exact ih (by omega) (by omega)
  | swapped hne hsw _ ih =>
    obtain ⟨hn, hm, -⟩ := hsw
    exact List.forall_mem_cons.mpr ⟨namesLetters_both nofun nofun hi hj (Nat.le_of_lt hn)
      (Nat.le_of_lt hm) hne,
      ih (by omega) (by omega)⟩
  | extra _ _ _ hex _ ih =>
    exact List.forall_mem_cons.mpr ⟨namesLetters_extra hj (Nat.le_of_lt hex.1), ih hi (by omega)⟩
  | missing _ _ _ _ hmi _ ih =>
    exact List.forall_mem_cons.mpr ⟨namesLetters_missing hi (Nat.le_of_lt hmi.1), ih (by omega) hj⟩
  | substitute hn hm hne _ _ _ _ ih =>
    exact List.forall_mem_cons.mpr ⟨namesLetters_both nofun nofun hi hj hn hm hne,
      ih (by omega) (by omega)⟩

/-! ## Positions rise (R31) -/

/-- These positions rise and none is below `p`. -/
def RisesFrom (p : Nat) (ps : List Nat) : Prop := ps.Pairwise (· < ·) ∧ ∀ q ∈ ps, p ≤ q

theorem RisesFrom.mono {p p' : Nat} {ps : List Nat} (h : RisesFrom p' ps) (hp : p ≤ p') :
    RisesFrom p ps :=
  ⟨h.1, fun q hq => Nat.le_trans hp (h.2 q hq)⟩

theorem RisesFrom.cons {p p' : Nat} {ps : List Nat} (h : RisesFrom p' ps) (hp : p < p') :
    RisesFrom p (p :: ps) :=
  ⟨List.pairwise_cons.mpr ⟨fun q hq => Nat.lt_of_lt_of_le hp (h.2 q hq), h.1⟩,
    List.forall_mem_cons.mpr ⟨Nat.le.refl, (h.mono (Nat.le_of_lt hp)).2⟩⟩

theorem risesFrom_range' (p n : Nat) : RisesFrom p (List.range' p n) :=
  ⟨List.pairwise_lt_range', fun _ hq => (List.mem_range'_1.mp hq).1⟩

theorem leftovers_targetPos (target attempt : List Letter) (i j : Nat) :
    (leftovers target attempt i j).filterMap (·.targetPos) =
      List.range' i (target.length + 1 - i) := by
  rw [leftovers, List.filterMap_append, List.filterMap_map, List.filterMap_map]
  show List.filterMap some _ ++ List.filterMap (fun _ => none) _ = _
  rw [List.filterMap_some, List.filterMap_eq_nil_iff.mpr (fun _ _ => rfl), List.append_nil]

theorem leftovers_typedPos (target attempt : List Letter) (i j : Nat) :
    (leftovers target attempt i j).filterMap (·.typedPos) =
      List.range' j (attempt.length + 1 - j) := by
  rw [leftovers, List.filterMap_append, List.filterMap_map, List.filterMap_map]
  show List.filterMap (fun _ => none) _ ++ List.filterMap some _ = _
  rw [List.filterMap_some, List.filterMap_eq_nil_iff.mpr (fun _ _ => rfl), List.nil_append]

/-- A step passes every position it records. -/
theorem Walk.risesFrom {target attempt : List Letter} {i j : Nat} {slips : List Slip}
    (h : Walk target attempt i j slips) :
    RisesFrom i (slips.filterMap (·.targetPos)) ∧ RisesFrom j (slips.filterMap (·.typedPos)) := by
  induction h with
  | @ends i j hend =>
    show RisesFrom i ((leftovers target attempt i j).filterMap _) ∧
      RisesFrom j ((leftovers target attempt i j).filterMap _)
    rw [leftovers_targetPos, leftovers_typedPos]
    exact ⟨risesFrom_range' i _, risesFrom_range' j _⟩
  | same _ _ _ _ ih => exact ⟨ih.1.mono (by omega), ih.2.mono (by omega)⟩
  | swapped _ _ _ ih => exact ⟨ih.1.cons (by omega), ih.2.cons (by omega)⟩
  | extra _ _ _ _ _ ih => exact ⟨ih.1, ih.2.cons (by omega)⟩
  | missing _ _ _ _ _ _ ih => exact ⟨ih.1.cons (by omega), ih.2⟩
  | substitute _ _ _ _ _ _ _ ih => exact ⟨ih.1.cons (by omega), ih.2.cons (by omega)⟩

/-- Settles O29: the model's list is the walk's (`walk_iff_slipsOf`), and the other clauses are
inductions over the walk. -/
theorem slipListsAreSound : Obligations.SlipListsAreSound := by
  refine ⟨fun target attempt => ⟨?_, slipsOf_eq_nil, verdictOf_eq_right⟩,
    fun target attempt slips => walk_iff_slipsOf, fun target attempt => ?_⟩
  · simpa using (walk_slipsOf target attempt).length_le
  · obtain ⟨htarget, htyped⟩ := (walk_slipsOf target attempt).risesFrom
    exact ⟨(walk_slipsOf target attempt).namesLetters Nat.le.refl Nat.le.refl, htarget.1, htyped.1⟩

/-! ## Reading the JUDGE's records (R34, R36) -/

theorem actJudgementGet_some {s : State} {j : JudgementRecord} (h : s.judge.last = some j) :
    actJudgementGet s = (s, [0x00#8, 0x01#8] ++ j.bytes) := by
  rw [actJudgementGet, h]; rfl

theorem actJudgementGet_none {s : State} (h : s.judge.last = none) :
    actJudgementGet s = (s, [0x00#8, 0x00#8]) := by
  rw [actJudgementGet, h]; rfl

theorem actSlipGet_held {s : State} {c : CaptureRecord} (h : s.judge.capture = some c) :
    actSlipGet s = ({ s with judge.capture := none }, [0x00#8, 0x01#8] ++ c.bytes) := by
  rw [actSlipGet, h]; rfl

theorem actSlipGet_empty {s : State} (h : s.judge.capture = none) :
    actSlipGet s = (s, [0x00#8, 0x00#8]) := by
  rw [actSlipGet, h]; rfl

/-- A request on a ready port is answered with what its action gives (R175). -/
theorem exec_request {c : Instr} {s t : State} {tag : Byte} {r : Request} {payload : List Byte}
    (hexec : exec c s = .next (deliver tag r s)) (hready : ready s = true)
    (hl : requestLengthOk r = true) (hact : act tag r (heard s) = (t, payload)) :
    exec c s = .next (answered r tag payload t) := by
  rw [hexec, deliver_ready tag hready hl, hact]

/-- Settles O34, by whether a judgement and a capture are held. -/
theorem judgementRecordsAreRead : Obligations.JudgementRecordsAreRead := by
  intro s tag hready
  refine ⟨?_, fun c hc => ?_, fun hc => ?_⟩
  · cases hj : s.judge.last with
    | none => exact exec_request rfl hready rfl (actJudgementGet_none (s := heard s) hj)
    | some j => exact exec_request rfl hready rfl (actJudgementGet_some (s := heard s) hj)
  · exact exec_request rfl hready rfl (actSlipGet_held (s := heard s) hc)
  · exact exec_request rfl hready rfl (actSlipGet_empty (s := heard s) hc)

end Sys2Proof.Machine
end

section

/-! PROOFS. What a judgement does to its word, its records and its phase: a wrong attempt (O30) and
a right one (O31). -/

namespace Sys2Proof.Machine

open Sys2Proof

/-- An event in progress is its state and its notices. -/
theorem Work.eq_mk {w : Work} {s : State} {ns : List Notice} (hst : w.st = s)
    (hraised : w.raised = ns) : w = { st := s, raised := ns } := by
  rw [← hst, ← hraised]

/-! ## One change to a present record (R8, R14) -/

/-- The STANDING notice of a change from one record of word i to another (R8). -/
def standingNotices (i : Nat) (before after : WordRecord) : List Notice :=
  if after.standing = before.standing then []
  else [.standing i before.standing after.standing after.strain]

theorem eq_of_mem_standingNotices {i : Nat} {before after : WordRecord} {n : Notice}
    (h : n ∈ standingNotices i before after) :
    n = .standing i before.standing after.standing after.strain := by
  unfold standingNotices at h
  split at h
  · cases h
  · exact List.mem_singleton.mp h

/-- The whole effect of a change to the record of a present word. -/
theorem changeRecord_eq {i : Nat} {o r : WordRecord} {w : Work} (h : w.st.bank.slot i = some o) :
    changeRecord i r w =
      { st := { w.st with bank := clearReservation (setSlot w.st.bank i (some r)) i }
        raised := w.raised ++ standingNotices i o r } := by
  simp only [changeRecord, h, standingNotices, eq_comm (a := r.standing)]
  split
  · rw [List.append_nil]
  · rfl

/-- Only a word of the bank is present. -/
theorem lt_of_slot_eq_some {b : WordBank} {i : Nat} {r : WordRecord} (h : b.slot i = some r) :
    i < 96 := by
  refine Decidable.byContradiction fun hi => ?_
  rw [WordBank.slot, dif_neg hi] at h
  cases h

theorem changeRecord_slot_same {i : Nat} {o r : WordRecord} {w : Work}
    (h : w.st.bank.slot i = some o) : (changeRecord i r w).st.bank.slot i = some r := by
  rw [changeRecord_slot, if_pos ⟨lt_of_slot_eq_some h, rfl⟩]

theorem changeRecord_slot_ne {i j : Nat} (r : WordRecord) (w : Work) (hj : j ≠ i) :
    (changeRecord i r w).st.bank.slot j = w.st.bank.slot j := by
  rw [changeRecord_slot, if_neg fun h => hj h.2]

@[simp] theorem setSlot_reservation (b : WordBank) (i : Nat) (r : Option WordRecord) :
    (setSlot b i r).reservation = b.reservation := by
  unfold setSlot; split <;> rfl

theorem clearReservation_reservation (b : WordBank) (i : Nat) :
    (clearReservation b i).reservation =
      if b.reservation = some i then none else b.reservation := by
  unfold clearReservation; split <;> rfl

/-- The reservation after one change to a record (R14). -/
theorem changed_reservation (b : WordBank) (i : Nat) (r : Option WordRecord) :
    (clearReservation (setSlot b i r) i).reservation =
      if b.reservation = some i then none else b.reservation := by
  rw [clearReservation_reservation, setSlot_reservation]

/-! ## The standing derived (R4) -/

theorem deriveStanding_eq_benched {limit : Nat} {r : WordRecord} :
    deriveStanding limit r = .benched ↔ r.strain = 256 := by
  unfold deriveStanding
  split
  · next h => simp [h]
  · next h =>
    simp only [h, iff_false]
    repeat' split
    all_goals exact nofun

/-! ## The verdict and its records (R23, R33, R35) -/

/-- A judgement of the current word with this verdict, these slips and this strain after it: the
JUDGE's records, the verdict kept with the word, and the VERDICT notice (R33, R35, R38, R63). -/
def giveVerdict (c : Current) (v : Verdict) (slips : List Slip) (strain : Nat) (w : Work) : Work :=
  let j : JudgementRecord :=
    { word := c.word, tryNo := c.tryNo, verdict := v, attempt := w.st.drill.attempt, slips := slips }
  let cap := captured j w.st.judge.capture
  { st := { w.st with judge := { last := some j, capture := cap.1 }
                      drill.current := some { c with lastVerdict := some v } }
    raised := w.raised ++ [.verdict c.word c.tryNo v slips.length strain cap.2] }

/-- A right judgement leaves the capture record alone (R35). -/
theorem giveVerdict_right (c : Current) (strain : Nat) (w : Work) :
    giveVerdict c .right [] strain w =
      { st := { w.st with
          judge := { last := some { word := c.word, tryNo := c.tryNo, verdict := .right,
                                    attempt := w.st.drill.attempt, slips := [] }
                     capture := w.st.judge.capture }
          drill.current := some { c with lastVerdict := some .right } }
        raised := w.raised ++ [.verdict c.word c.tryNo .right 0 strain false] } := by
  rw [giveVerdict]
  cases w.st.judge.capture <;> rfl

/-- A wrong judgement fills an empty capture record with its first slip, and leaves a held one
(R35). -/
theorem giveVerdict_wrong (c : Current) (first : Slip) (more : List Slip) (strain : Nat)
    (w : Work) :
    giveVerdict c .wrong (first :: more) strain w =
      { st := { w.st with
          judge := { last := some { word := c.word, tryNo := c.tryNo, verdict := .wrong,
                                    attempt := w.st.drill.attempt, slips := first :: more }
                     capture := some (w.st.judge.capture.getD
                       { word := c.word, tryNo := c.tryNo, first := first,
                         total := more.length + 1 }) }
          drill.current := some { c with lastVerdict := some .wrong } }
        raised := w.raised ++
          [.verdict c.word c.tryNo .wrong (more.length + 1) strain w.st.judge.capture.isNone] } := by
  rw [giveVerdict]
  cases w.st.judge.capture <;> rfl

/-- A judgement up to the bench and the phase that follows: its verdict, then the word's record
brought to r' (R38). -/
def recordVerdict (c : Current) (v : Verdict) (slips : List Slip) (r' : WordRecord) (w : Work) :
    Work :=
  changeRecord c.word r' (giveVerdict c v slips r'.strain w)

theorem recordVerdict_eq {c : Current} {v : Verdict} {slips : List Slip} {r r' : WordRecord}
    {w : Work} (hr : w.st.bank.slot c.word = some r) :
    recordVerdict c v slips r' w =
      let t := giveVerdict c v slips r'.strain w
      { st := { t.st with
          bank := clearReservation (setSlot w.st.bank c.word (some r')) c.word }
        raised := t.raised ++ standingNotices c.word r r' } :=
  changeRecord_eq hr

theorem recordVerdict_slot {c : Current} {v : Verdict} {slips : List Slip} {r r' : WordRecord}
    {w : Work} (hr : w.st.bank.slot c.word = some r) :
    (recordVerdict c v slips r' w).st.bank.slot c.word = some r' :=
  changeRecord_slot_same hr

theorem recordVerdict_slot_ne {c : Current} (v : Verdict) (slips : List Slip) (r' : WordRecord)
    (w : Work) {j : Nat} (hj : j ≠ c.word) :
    (recordVerdict c v slips r' w).st.bank.slot j = w.st.bank.slot j :=
  changeRecord_slot_ne r' (giveVerdict c v slips r'.strain w) hj

theorem recordVerdict_params (c : Current) (v : Verdict) (slips : List Slip) (r' : WordRecord)
    (w : Work) : (recordVerdict c v slips r' w).st.params = w.st.params :=
  (changeRecord_kept c.word r' (giveVerdict c v slips r'.strain w)).params

theorem recordVerdict_reservation_ne {c : Current} {v : Verdict} {slips : List Slip}
    {r r' : WordRecord} {w : Work} (hr : w.st.bank.slot c.word = some r) :
    (recordVerdict c v slips r' w).st.bank.reservation ≠ some c.word := by
  rw [recordVerdict_eq hr]
  exact clearReservation_ne _ _

/-! ## A GO with letters in LISTEN (R23, R72) -/

/-- The phase entered from LISTEN after a judgement, with its script: the ATTENTION TIMER stops
(R112). -/
def leaveListen (ph : Phase) (script : List ScriptItem) (w : Work) : Work :=
  enterPhase ph .noReason
    { w with st := { w.st with attn := stopAttention w.st.attn
                               drill := { w.st.drill with script := script } } }

section
variable (ph : Phase) (script : List ScriptItem) (w : Work)

@[simp] theorem leaveListen_bank : (leaveListen ph script w).st.bank = w.st.bank := rfl
@[simp] theorem leaveListen_judge : (leaveListen ph script w).st.judge = w.st.judge := rfl
@[simp] theorem leaveListen_attn :
    (leaveListen ph script w).st.attn = stopAttention w.st.attn := rfl
@[simp] theorem leaveListen_drill : (leaveListen ph script w).st.drill =
    { w.st.drill with phase := ph, reason := .noReason, script := script } := rfl
@[simp] theorem leaveListen_raised : (leaveListen ph script w).raised =
    w.raised ++ [.phase w.st.drill.mode ph .noReason w.st.drill.word] := rfl

end

/-- A GO with letters is judged, and its engagement finds the ATTENTION TIMER as the judgement left
it (R113). -/
theorem takeEvent_go {w : Work} {c : Current} {r : WordRecord} (pos : Nat)
    (hmode : w.st.drill.mode = .drill) (hphase : w.st.drill.phase = .listen)
    (hc : w.st.drill.current = some c) (hr : w.st.bank.slot c.word = some r)
    (hattempt : w.st.drill.attempt ≠ []) :
    takeEvent (.key .go pos) w =
      { judge c r w with st := { (judge c r w).st with
          attn := { (judge c r w).st.attn with elapsed := 0, stage := 0 } } } := by
  have hrec : currentRecord w.st = some r := by rw [currentRecord, hc]; exact hr
  simp only [takeEvent, hmode, hphase, takeInListen, hc, hrec, listenKey, if_neg hattempt]
  rfl

/-! ## A wrong judgement (R43, R44, R74, R76, R77) -/

/-- The record of the current word after a wrong judgement. -/
def wrongedRecord (r : WordRecord) (w : Work) : WordRecord :=
  derived w.st.params.warnLimit
    (wrongUpdate w.st.params (slipsOf r.spelling w.st.drill.attempt).length r)

theorem makeJudgement_of_wrong {c : Current} {r : WordRecord} {w : Work}
    (hne : w.st.drill.attempt ≠ r.spelling) :
    makeJudgement c r w =
      recordVerdict c .wrong (slipsOf r.spelling w.st.drill.attempt) (wrongedRecord r w) w := by
  simp only [makeJudgement, verdictOf, if_neg hne]
  rfl

/-- After a wrong judgement the word is spelled out with the word benched or no try left, and is to
be tried again otherwise (R39, R76). -/
theorem judge_of_wrong {c : Current} {r : WordRecord} {w : Work}
    (hr : w.st.bank.slot c.word = some r) (hne : w.st.drill.attempt ≠ r.spelling) :
    judge c r w =
      let last := (wrongedRecord r w).strain = 256 ∨ w.st.params.triesMax ≤ c.tryNo
      leaveListen (if last then .spellout else .feedback)
        (if last then spellingOut r
         else correction (slipsOf r.spelling w.st.drill.attempt).length r)
        (recordVerdict c .wrong (slipsOf r.spelling w.st.drill.attempt) (wrongedRecord r w) w) := by
  have hmake := makeJudgement_of_wrong (c := c) hne
  have hslot : (makeJudgement c r w).st.bank.slot c.word = some (wrongedRecord r w) :=
    hmake ▸ recordVerdict_slot hr
  have hbenched : (wrongedRecord r w).standing = .benched ↔ (wrongedRecord r w).strain = 256 :=
    deriveStanding_eq_benched
  have hagain : (c.tryNo < (makeJudgement c r w).st.params.triesMax ∧
      decide ((wrongedRecord r w).standing = .benched) = false) ↔
      ¬ ((wrongedRecord r w).strain = 256 ∨ w.st.params.triesMax ≤ c.tryNo) := by
    rw [decide_eq_false_iff_not, hbenched, (makeJudgement_kept c r w).params]; omega
  simp only [← hmake]
  simp only [judge, verdictOf, if_neg hne, hslot, hagain, ite_not]
  split <;> rfl

/-- Settles O30: a wrong attempt has a slip (O29), and the judgement's whole effect is
`judge_of_wrong` over `recordVerdict_eq`. -/
theorem wrongAttemptsRaiseStrain : Obligations.WrongAttemptsRaiseStrain := by
  intro w c r pos hmode hphase hc hr hattempt hne
  obtain ⟨first, more, hslips⟩ := List.exists_cons_of_ne_nil (mt slipsOf_eq_nil.mp hne)
  refine ⟨wrongedRecord r w, first, more, hslips, ?_⟩
  rw [takeEvent_go pos hmode hphase hc hr hattempt, judge_of_wrong hr hne]
  simp only [leaveListen_bank, leaveListen_judge, leaveListen_attn, leaveListen_drill,
    leaveListen_raised]
  refine ⟨recordVerdict_slot hr, ?strain, rfl, rfl, ?credit, rfl, rfl, rfl, rfl, rfl,
    fun j hj => recordVerdict_slot_ne _ _ _ _ hj, ?rest⟩
  case strain => simp [wrongedRecord, derived, wrongUpdate, wrongIncrement, hslips, Nat.min_comm]
  case credit => simp [wrongedRecord, derived, wrongUpdate, wrongIncrement, hslips]
  rw [recordVerdict_eq hr, hslips, giveVerdict_wrong]
  refine ⟨?judge, ?raised, changed_reservation _ _ _, trivial, rfl, ?script, rfl, rfl, rfl⟩
  case judge => cases w.st.judge.capture <;> rfl
  case raised => simp [Drill.word, hmode, standingNotices]
  case script => simp [correction, spellingOut, letterItems]

/-! ## The return credit step (R51) -/

/-- The judged word's own credit is not counted down. -/
theorem stepsCredit_self (i : Nat) (r : WordRecord) : stepsCredit i i r = false := by
  simp [stepsCredit]

theorem creditStep_slot (k j : Nat) (b : WordBank) :
    (creditStep k b).slot j =
      (b.slot j).map fun r => if stepsCredit k j r then { r with credit := r.credit - 1 } else r := by
  by_cases hj : j < 96
  · simp [WordBank.slot, creditStep, hj]
  · simp [WordBank.slot, hj]

theorem creditStep_slot_self (k : Nat) (b : WordBank) : (creditStep k b).slot k = b.slot k := by
  simp [creditStep_slot, stepsCredit_self]

/-- The credit step can only clear the reservation (R14). -/
theorem creditStep_reservation {k i : Nat} {b : WordBank}
    (h : (creditStep k b).reservation = some i) : b.reservation = some i :=
  (Option.filter_eq_some_iff.mp h).1

/-! ## The visits to the bench (R52 to R54) -/

/-- What visits to the bench can do: they change the bank and the DRILL QUEUE alone, leave every
word that is not BENCHED, can only clear the reservation, and raise STANDING notices of words that
leave BENCHED. -/
structure VisitsBench (w t : Work) : Prop where
  frame : ∃ b q, t.st = { w.st with bank := b, drill := { w.st.drill with queue := q } }
  spared : ∀ j r, w.st.bank.slot j = some r → r.standing ≠ .benched → t.st.bank.slot j = some r
  reservation : ∀ j, t.st.bank.reservation = some j → w.st.bank.reservation = some j
  raised : ∃ ns, t.raised = w.raised ++ ns ∧ ∀ n ∈ ns, ∃ j after strain,
    n = .standing j .benched after strain ∧ ∀ r, w.st.bank.slot j = some r → r.standing = .benched

theorem VisitsBench.refl (w : Work) : VisitsBench w w where
  frame := ⟨_, _, rfl⟩
  spared _ _ h _ := h
  reservation _ hj := hj
  raised := ⟨[], (List.append_nil _).symm, nofun⟩

theorem VisitsBench.trans {w t u : Work} (h : VisitsBench w t) (k : VisitsBench t u) :
    VisitsBench w u where
  frame := by
    obtain ⟨b, q, ht⟩ := h.frame
    obtain ⟨b', q', hu⟩ := k.frame
    exact ⟨b', q', by rw [hu, ht]⟩
  spared j r hr hne := k.spared j r (h.spared j r hr hne) hne
  reservation j hj := h.reservation j (k.reservation j hj)
  raised := by
    obtain ⟨ns, ht, hns⟩ := h.raised
    obtain ⟨ms, hu, hms⟩ := k.raised
    refine ⟨ns ++ ms, by rw [hu, ht, List.append_assoc], fun n hn => ?_⟩
    rcases List.mem_append.mp hn with hn | hn
    · exact hns n hn
    · obtain ⟨j, after, strain, rfl, hj⟩ := hms n hn
      refine ⟨j, after, strain, rfl, fun r hr => ?_⟩
      exact Decidable.byContradiction fun hne => hne (hj r (h.spared j r hr hne))

/-- Only a BENCHED word returns (R52). -/
theorem standing_of_returns {i : Nat} {s : State} {r : WordRecord} (hr : s.bank.slot i = some r)
    (h : returns i s = true) : r.standing = .benched := by
  simp only [returns, hr, Bool.and_eq_true, decide_eq_true_eq] at h
  obtain ⟨⟨⟨hbenched, -⟩, -⟩, -⟩ := h
  exact hbenched

theorem visitBench_visitsBench (w : Work) (i : Nat) : VisitsBench w (visitBench w i) := by
  unfold visitBench
  split
  · next r hr =>
    split
    · next hret =>
      have hbenched : r.standing = .benched := standing_of_returns hr hret
      rw [changeRecord_eq hr]
      refine ⟨⟨_, _, rfl⟩, fun j q hq hne => ?_, fun j hj => ?_, _, rfl, fun n hn => ?_⟩
      · have hj : j ≠ i := by
          rintro rfl
          exact hne (Option.some.inj (hq.symm.trans hr) ▸ hbenched)
        rw [slot_clearReservation, slot_setSlot, if_neg fun h => hj h.2, hq]
      · rw [changed_reservation] at hj
        split at hj
        · cases hj
        · exact hj
      · refine ⟨i, _, _, hbenched ▸ eq_of_mem_standingNotices hn, fun q hq => ?_⟩
        exact Option.some.inj (hr.symm.trans hq) ▸ hbenched
    · exact .refl w
  · exact .refl w

theorem foldl_visitsBench (l : List Nat) (w : Work) : VisitsBench w (l.foldl visitBench w) := by
  induction l generalizing w with
  | nil => exact .refl w
  | cons i l ih => exact (visitBench_visitsBench w i).trans (ih _)

theorem benchReturns_visitsBench (w : Work) : VisitsBench w (benchReturns w) := by
  unfold benchReturns
  split
  · exact foldl_visitsBench _ w
  · exact .refl w

/-- With BENCH_RETURN off no word returns (R52). -/
theorem benchReturns_off {w : Work} (h : w.st.params.benchReturn ≠ 1) : benchReturns w = w :=
  if_neg h

/-! ## A right judgement (R46 to R48, R51, R52, R74) -/

/-- The record of the current word after a right judgement. -/
def creditedRecord (c : Current) (r : WordRecord) (w : Work) : WordRecord :=
  derived w.st.params.warnLimit (rightUpdate w.st.params (rightCredit c) r)

/-- The return credit step after a right judgement of this word (R51). -/
def stepCredits (word : Nat) (w : Work) : Work := { w with st.bank := creditStep word w.st.bank }

@[simp] theorem stepCredits_params (word : Nat) (w : Work) :
    (stepCredits word w).st.params = w.st.params := by
  simp only [stepCredits]

/-- A right judgement up to its return credit step, the bench not yet visited. -/
def creditRight (c : Current) (r : WordRecord) (w : Work) : Work :=
  stepCredits c.word (recordVerdict c .right [] (creditedRecord c r w) w)

theorem makeJudgement_of_right {c : Current} {r : WordRecord} {w : Work}
    (heq : w.st.drill.attempt = r.spelling) :
    makeJudgement c r w = benchReturns (creditRight c r w) := by
  simp only [makeJudgement, verdictOf, if_pos heq, slipsOf_eq_nil.mpr heq]
  rfl

theorem judge_of_right {c : Current} {r : WordRecord} {w : Work}
    (heq : w.st.drill.attempt = r.spelling) :
    judge c r w =
      let t := benchReturns (creditRight c r w)
      leaveListen .feedback (praiseScript t.st.drill.praise)
        { t with st.drill.praise := t.st.drill.praise + 1 } := by
  simp only [judge, makeJudgement_of_right heq, verdictOf, if_pos heq]
  rfl

theorem creditRight_slot {c : Current} {r : WordRecord} {w : Work}
    (hr : w.st.bank.slot c.word = some r) :
    (creditRight c r w).st.bank.slot c.word = some (creditedRecord c r w) :=
  (creditStep_slot_self _ _).trans (recordVerdict_slot hr)

theorem creditRight_reservation_ne {c : Current} {r : WordRecord} {w : Work}
    (hr : w.st.bank.slot c.word = some r) :
    (creditRight c r w).st.bank.reservation ≠ some c.word :=
  fun h => recordVerdict_reservation_ne hr (creditStep_reservation h)

theorem creditRight_params (c : Current) (r : WordRecord) (w : Work) :
    (creditRight c r w).st.params = w.st.params := by
  rw [creditRight, stepCredits_params, recordVerdict_params]

/-- A right judgement leaves the word below the bench. -/
theorem creditedRecord_standing {c : Current} {r : WordRecord} {w : Work} (h : r.strain < 256) :
    (creditedRecord c r w).standing ≠ .benched := by
  have hstrain : r.strain - rightCredit c ≠ 256 := by omega
  exact mt deriveStanding_eq_benched.mp hstrain

/-- Settles O31: the judgement's whole effect is `judge_of_right`, and the visits to the bench spare
the word judged, which is not BENCHED. -/
theorem rightAttemptsEarnCredit : Obligations.RightAttemptsEarnCredit := by
  intro w c r pos hmode hphase hc hr hattempt heq hstrain
  have hvisits := benchReturns_visitsBench (creditRight c r w)
  have hslot := hvisits.spared _ _ (creditRight_slot hr) (creditedRecord_standing hstrain)
  have hreservation := mt (hvisits.reservation c.word) (creditRight_reservation_ne hr)
  obtain ⟨b, q, hst⟩ := hvisits.frame
  obtain ⟨returned, hraised, hreturned⟩ := hvisits.raised
  have hdone : benchReturns (creditRight c r w) = { st := _, raised := _ } :=
    Work.eq_mk hst hraised
  refine ⟨creditedRecord c r w, rightCredit c, rfl, ?_⟩
  rw [takeEvent_go pos hmode hphase hc hr hattempt, judge_of_right heq]
  simp only [leaveListen_bank, leaveListen_judge, leaveListen_attn, leaveListen_drill,
    leaveListen_raised]
  refine ⟨hslot, rfl, rfl, ?latch, rfl, rfl, rfl, rfl, rfl, rfl, ?judge,
    ⟨returned, ?raised, ?off, ?returned⟩, hreservation, trivial, ?rest⟩
  case latch => simp [creditedRecord, derived, rightUpdate]
  case returned =>
    intro n hn
    obtain ⟨j, after, strain, rfl, hj⟩ := hreturned n hn
    refine ⟨j, after, strain, rfl, ?_⟩
    rintro rfl
    exact creditedRecord_standing hstrain (hj _ (creditRight_slot hr))
  case off =>
    intro hoff
    rw [← creditRight_params c r w] at hoff
    rw [benchReturns_off hoff] at hraised
    exact List.append_right_eq_self.mp hraised.symm
  all_goals rw [hdone, creditRight, recordVerdict_eq hr, giveVerdict_right]
  case judge => rfl
  case raised => simp [Drill.word, hmode, standingNotices, stepCredits]
  case rest => exact ⟨rfl, rfl, rfl, rfl, rfl⟩

end Sys2Proof.Machine
end

section

/-! PROOFS. The SPEECH PLAYER between entries: the part at rest seen as the player and the drill
each at rest, and the one turn the player takes when it has become IDLE (R129 to R132). -/

namespace Sys2Proof.Machine

open Sys2Proof

/-! ## The player and the drill at rest -/

/-- The DRILL ENGINE has nothing to do at once: no script entry to place, no key event to take, no
phase to end. -/
def drillRests (s : State) : Bool := !feedDue s && !keyDue s && !speechOver s

theorem atRest_iff {s : State} :
    atRest s = true ↔ playerRests s = true ∧ drillRests s = true := by
  simp [atRest, playerRests, drillRests, and_assoc]

theorem drillRests_iff {s : State} : drillRests s = true ↔
    feedDue s = false ∧ keyDue s = false ∧ speechOver s = false := by
  simp [drillRests, and_assoc]

/-- What the drill does next depends on nothing of the player, the output or the clip store. -/
theorem drillRests_congr {s t : State} (hdrill : t.drill = s.drill)
    (hqueue : t.speech.queue = s.speech.queue) (hkeys : t.keys = s.keys)
    (hpower : t.power = s.power) : drillRests t = drillRests s := by
  simp only [drillRests, feedDue, keyDue, takesKeys, speechOver, hdrill, hqueue, hkeys, hpower]

/-- What the player does next depends on the speech and, when it is IDLE, on the probe. -/
theorem playerRests_congr {s t : State} (hspeech : t.speech = s.speech)
    (hprobe : s.speech.player = .idle → t.out.probe = s.out.probe) :
    playerRests t = playerRests s := by
  have hdue : probeDue t = probeDue s := by
    by_cases hidle : s.speech.player = .idle <;> simp [probeDue, hspeech, hidle, hprobe]
  simp only [playerRests, takeDue, playDue, hdue, hspeech]

theorem playerRests_play {s : State} {p : Playing} (h : s.speech.player = .play p) :
    playerRests s = true := by
  simp [playerRests, probeDue, takeDue, playDue, h]

theorem playerRests_held {s : State} (h : s.speech.player = .held) : playerRests s = true := by
  simp [playerRests, probeDue, takeDue, playDue, h]

/-- In GAP the player rests while the head entry's gap is not 0 (R129). -/
theorem playerRests_gap {s : State} {ms : Nat} (h : s.speech.player = .gap ms) :
    playerRests s = true ↔ ∃ e es, s.speech.queue = e :: es ∧ e.gap ≠ 0 := by
  cases hq : s.speech.queue <;> simp [playerRests, probeDue, takeDue, playDue, h, hq]

/-- An IDLE player rests with nothing to take and no probe requested (R129, R132). -/
theorem playerRests_idle {s : State} (h : s.speech.player = .idle) :
    playerRests s = true ↔ s.speech.queue = [] ∧ s.out.probe ≠ .requested := by
  simp [playerRests, probeDue, takeDue, playDue, h, and_comm]

/-! ## Steps of the cascade -/

theorem micro_of_probeDue {w : Work} (h : probeDue w.st = true) :
    micro w = some (probeStarts w) := by
  simp [micro, h]

theorem micro_of_takeDue {w : Work} (hprobe : probeDue w.st = false) (h : takeDue w.st = true) :
    micro w = some (takeHead w) := by
  simp [micro, hprobe, h]

theorem micro_of_playDue {w : Work} (hprobe : probeDue w.st = false) (htake : takeDue w.st = false)
    (h : playDue w.st = true) : micro w = some (enterPlay w) := by
  simp [micro, hprobe, htake, h]

theorem micro_of_speechOver {w : Work} (hplayer : playerRests w.st = true)
    (hfeed : feedDue w.st = false) (hkey : keyDue w.st = false) (h : speechOver w.st = true) :
    micro w = some (endPhase w) := by
  simp only [playerRests, Bool.and_eq_true, Bool.not_eq_true'] at hplayer
  obtain ⟨⟨hprobe, htake⟩, hplay⟩ := hplayer
  simp [micro, hprobe, htake, hplay, hfeed, hkey, h]

/-! ## The player's turn (R129, R132) -/

/-- The IDLE player becomes this, the head entry taken, its clip started or the probe run. -/
def playerTurn (player : Player) (w : Work) : Work :=
  match player with
  | .idle => w
  | .held => probeStarts w
  | .gap _ => takeHead w
  | .play p => startClip p w

section
variable (player : Player) (w : Work)

@[simp] theorem playerTurn_queue :
    (playerTurn player w).st.speech.queue = w.st.speech.queue := by cases player <;> rfl
@[simp] theorem playerTurn_drill : (playerTurn player w).st.drill = w.st.drill := by
  cases player <;> rfl
@[simp] theorem playerTurn_bank : (playerTurn player w).st.bank = w.st.bank := by
  cases player <;> rfl
@[simp] theorem playerTurn_keys : (playerTurn player w).st.keys = w.st.keys := by
  cases player <;> rfl
@[simp] theorem playerTurn_power : (playerTurn player w).st.power = w.st.power := by
  cases player <;> rfl
@[simp] theorem playerTurn_link : (playerTurn player w).st.link = w.st.link := by
  cases player <;> rfl
@[simp] theorem playerTurn_clipCount :
    (playerTurn player w).st.out.clipCount = w.st.out.clipCount := by cases player <;> rfl
@[simp] theorem playerTurn_trimDown :
    (playerTurn player w).st.out.trimDown = w.st.out.trimDown := by cases player <;> rfl
@[simp] theorem playerTurn_raised : (playerTurn player w).raised = w.raised := by
  cases player <;> rfl

theorem drillRests_playerTurn : drillRests (playerTurn player w).st = drillRests w.st :=
  drillRests_congr (playerTurn_drill _ _) (playerTurn_queue _ _) (playerTurn_keys _ _)
    (playerTurn_power _ _)

end

/-- What the player between entries can become. -/
theorem nextPlayer_cases {s : State} {probe : Probe} {q : List Entry} {player : Player}
    (h : nextPlayer s probe q = some player) :
    (probe = .requested ∧ player = .held) ∨
    (probe ≠ .requested ∧ q = [] ∧ player = .idle) ∨
    (probe ≠ .requested ∧ ∃ e es, q = e :: es ∧ e.gap ≠ 0 ∧ player = .gap 0) ∨
    (probe ≠ .requested ∧ ∃ e es p, q = e :: es ∧ e.gap = 0 ∧ playable s e.clip = some p ∧
      player = .play p) := by
  by_cases hprobe : probe = .requested
  · rw [nextPlayer.eq_def, if_pos hprobe] at h
    exact .inl ⟨hprobe, (Option.some.inj h).symm⟩
  rw [nextPlayer.eq_def, if_neg hprobe] at h
  cases q with
  | nil => exact .inr (.inl ⟨hprobe, rfl, (Option.some.inj h).symm⟩)
  | cons e es =>
    by_cases hgap : e.gap = 0
    · simp only [hgap, ne_eq, not_true_eq_false, if_false, Option.map_eq_some_iff] at h
      obtain ⟨p, hp, rfl⟩ := h
      exact .inr (.inr (.inr ⟨hprobe, e, es, p, rfl, hgap, hp, rfl⟩))
    · simp only [ne_eq, hgap, not_false_eq_true, if_true] at h
      exact .inr (.inr (.inl ⟨hprobe, e, es, rfl, hgap, (Option.some.inj h).symm⟩))

theorem nextPlayer_requested (s : State) (q : List Entry) :
    nextPlayer s .requested q = some .held := by
  rw [nextPlayer.eq_def, if_pos rfl]

theorem nextPlayer_nil (s : State) (probe : Probe) :
    nextPlayer s probe [] = some (if probe = .requested then .held else .idle) := by
  rw [nextPlayer.eq_def]; split <;> rfl

theorem nextPlayer_cons (s : State) {probe : Probe} (h : probe ≠ .requested) (e : Entry)
    (es : List Entry) : nextPlayer s probe (e :: es) =
      if e.gap ≠ 0 then some (.gap 0) else (playable s e.clip).map .play := by
  rw [nextPlayer.eq_def, if_neg h]

theorem enterPlay_playable {w : Work} {e : Entry} {es : List Entry} {p : Playing}
    (hqueue : w.st.speech.queue = e :: es) (hp : playable w.st e.clip = some p) :
    enterPlay w = startClip p w := by
  simp only [enterPlay, hqueue, hp]

section
variable {w : Work} {player : Player}

/-- The IDLE player takes its turn, of two steps at most, before anything else follows. -/
theorem runOn_playerTurn (hidle : w.st.speech.player = .idle)
    (hnext : nextPlayer w.st w.st.out.probe w.st.speech.queue = some player) :
    ∃ k ≤ 2, ∀ n, runOn (n + k) w = runOn n (playerTurn player w) := by
  rcases nextPlayer_cases hnext with ⟨hprobe, rfl⟩ | ⟨-, -, rfl⟩ | ⟨hprobe, e, es, hq, -, rfl⟩ |
    ⟨hprobe, e, es, p, hq, hgap, hp, rfl⟩
  · have hdue : probeDue w.st = true := by simp [probeDue, hidle, hprobe]
    exact ⟨1, by omega, runOn_step (micro_of_probeDue hdue)⟩
  · exact ⟨0, by omega, fun _ => rfl⟩
  all_goals
    have hnot : probeDue w.st = false := by simp [probeDue, hprobe]
    have hdue : takeDue w.st = true := by simp [takeDue, hidle, hq]
    have htake := runOn_step (micro_of_takeDue hnot hdue)
  · exact ⟨1, by omega, htake⟩
  · have hgapOver : playDue (takeHead w).st = true := by simp [playDue, takeHead, hq, hgap]
    have henter : enterPlay (takeHead w) = playerTurn (.play p) w := enterPlay_playable hq hp
    have hplay := henter ▸ micro_of_playDue rfl rfl hgapOver
    exact ⟨2, by omega, fun n => (htake (n + 1)).trans (runOn_step hplay n)⟩

theorem runToRest_eq_playerTurn (hidle : w.st.speech.player = .idle)
    (hnext : nextPlayer w.st w.st.out.probe w.st.speech.queue = some player) :
    ∃ n, runToRest w = runOn (n + 1) (playerTurn player w) := by
  obtain ⟨k, hk, hrun⟩ := runOn_playerTurn hidle hnext
  have hfuel : cascadeFuel = 4095 - k + 1 + k := by unfold cascadeFuel; omega
  exact ⟨4095 - k, by rw [runToRest, hfuel, hrun]⟩

theorem playerRests_playerTurn (hidle : w.st.speech.player = .idle)
    (hnext : nextPlayer w.st w.st.out.probe w.st.speech.queue = some player) :
    playerRests (playerTurn player w).st = true := by
  rcases nextPlayer_cases hnext with ⟨-, rfl⟩ | ⟨hprobe, hq, rfl⟩ | ⟨-, e, es, hq, hgap, rfl⟩ |
    ⟨-, e, es, p, -, -, -, rfl⟩
  · exact playerRests_held rfl
  · exact (playerRests_idle hidle).mpr ⟨hq, hprobe⟩
  · exact (playerRests_gap rfl).mpr ⟨e, es, hq, hgap⟩
  · exact playerRests_play rfl

/-- The player becomes what its turn names. -/
theorem playerTurn_speech (hidle : w.st.speech.player = .idle)
    (hnext : nextPlayer w.st w.st.out.probe w.st.speech.queue = some player) :
    (playerTurn player w).st.speech = { w.st.speech with player := player } := by
  rcases nextPlayer_cases hnext with ⟨-, rfl⟩ | ⟨-, -, rfl⟩ | ⟨-, -, -, -, -, rfl⟩ |
    ⟨-, -, -, -, -, -, -, rfl⟩
  case inr.inl => show w.st.speech = _; rw [← hidle]
  all_goals rfl

/-- With the drill at rest the IDLE player's turn is all that follows. -/
theorem runToRest_playerTurn (hidle : w.st.speech.player = .idle)
    (hnext : nextPlayer w.st w.st.out.probe w.st.speech.queue = some player)
    (hdrill : drillRests w.st = true) : runToRest w = playerTurn player w := by
  obtain ⟨n, hrun⟩ := runToRest_eq_playerTurn hidle hnext
  have hrest : atRest (playerTurn player w).st = true :=
    atRest_iff.mpr ⟨playerRests_playerTurn hidle hnext, drillRests_playerTurn player w ▸ hdrill⟩
  rw [hrun, runOn_atRest hrest]

end

/-! ## The end of an event -/

theorem dispose_silent {w : Work} (h : w.raised = []) : dispose w = w.st := by
  rw [dispose, h]; rfl

theorem finish_silent {w : Work} (h : w.raised = []) : finish w = transmit w.st := by
  rw [finish, dispose_silent h]

theorem endEvent_begin {s : State} (h : atRest s = true) : endEvent s.begin = s := by
  rw [endEvent_atRest (w := s.begin) h, dispose_begin]

theorem conclude_eq_finish {w t : Work} (hrun : runToRest w = t) : conclude w = finish t := by
  rw [conclude, endEvent, hrun, finish]

end Sys2Proof.Machine
end

section

/-! PROOFS. Speech and the clip store (chapter 7): the end of a directory read (O47), SAY (O48),
RELOAD_CLIPS and GUARD_CLEAR (O50), and the end of a gap (O51). -/

namespace Sys2Proof.Machine

open Sys2Proof

/-! ## The end of a directory read (R124, R191) -/

theorem sumFrom_eq_sum (bytes : List Byte) (a n : Nat) : sumFrom bytes a n =
    ((List.range n).map fun i => (flashByte bytes (a + i)).toNat).sum % 65536 := by
  rw [sumFrom, List.sum_eq_foldl, List.foldl_map]

/-- The first test of R124 that these bytes of the flash fail. -/
def failingTest (bytes : List Byte) : Option DirFault :=
  if ¬ (flashByte bytes 0 = 0x5A#8 ∧ flashByte bytes 1 = 0x48#8 ∧
      flashByte bytes 2 = 0x43#8 ∧ flashByte bytes 3 = 0x53#8) then some .signature
  else if flashByte bytes 4 ≠ 1#8 then some .format
  else if flash16 bytes 5 = 0 ∨ 1023 < flash16 bytes 5 then some .count
  else if (((List.range 147).map fun a => (flashByte bytes a).toNat).sum +
      ((List.range (8 * flash16 bytes 5)).map fun a => (flashByte bytes (149 + a)).toNat).sum)
        % 65536 ≠ flash16 bytes 147 then some .check
  else none

theorem testDirectory_eq (bytes : List Byte) : testDirectory bytes =
    match failingTest bytes with
    | some cause => .fails cause
    | none => .ok (flash16 bytes 5) := by
  have hsign : (List.range 4).map (flashByte bytes) = [0x5A#8, 0x48#8, 0x43#8, 0x53#8] ↔
      flashByte bytes 0 = 0x5A#8 ∧ flashByte bytes 1 = 0x48#8 ∧
        flashByte bytes 2 = 0x43#8 ∧ flashByte bytes 3 = 0x53#8 := by
    simp [List.range_succ]
  simp only [testDirectory, failingTest, hsign, Nat.lt_one_iff, sumFrom_eq_sum, Nat.zero_add,
    ← Nat.add_mod, ne_eq]
  split
  · rfl
  split
  · rfl
  split
  · rfl
  split
  · rfl
  · rfl

theorem exec_directoryReadDone {s : State} (bytes : List Byte) (h : s.clips.dir = .reading) :
    exec (.directoryReadDone bytes) s = .next (endRead bytes s) := by
  rw [exec, execDirectoryReadDone, if_pos h]

theorem finish_one {w : Work} {n : Notice} (h : w.raised = [n]) :
    (finish w).link.report = (offer w.st.link n).report := by
  rw [finish, transmit_report, dispose_one h]

/-- The clip store after the tests of a directory read (R124). -/
def clipsRead (bytes : List Byte) : ClipStore :=
  match failingTest bytes with
  | some _ => { dir := .bad, count := 0, roles := Vector.replicate 70 0, spi := none }
  | none => { dir := .ok, count := flash16 bytes 5, roles := readRoles bytes, spi := none }

/-- The end of a directory read stores what was read and raises the CLIPS notice of it. -/
theorem endRead_eq (bytes : List Byte) (s : State) : endRead bytes s =
    finish ((State.begin { s with flash := bytes, clips := clipsRead bytes }).raise
      (.clips (clipsRead bytes).dir (clipsRead bytes).count (failingTest bytes))) := by
  rw [endRead, testDirectory_eq, clipsRead]
  cases failingTest bytes <;> rfl

/-- Settles O47: the read stores and reports what its first failing test says (`endRead_eq`). -/
theorem directoryReadsEnd : Obligations.DirectoryReadsEnd := by
  intro s bytes hdir
  have hreport : (endRead bytes s).link.report = (offer s.link
      (.clips (clipsRead bytes).dir (clipsRead bytes).count (failingTest bytes))).report := by
    rw [endRead_eq, finish_one rfl]; rfl
  have hclips : (endRead bytes s).clips = clipsRead bytes := by rw [endRead_eq, finish_clips]; rfl
  refine ⟨endRead bytes s, exec_directoryReadDone bytes hdir, fun result hresult => ⟨?bad, ?ok⟩,
    ?frame⟩
  case frame => simp [endRead_eq]
  all_goals
    obtain rfl : result = failingTest bytes := hresult
    rw [hreport, hclips, clipsRead]
  case bad =>
    intro cause hcause
    rw [hcause]
    exact ⟨rfl, rfl, fun i => by simp, rfl⟩
  case ok =>
    intro hnone
    rw [hnone]
    exact ⟨rfl, rfl, fun i => by simp [readRoles], rfl⟩

/-! ## SAY (R135) -/

/-- The first failing check of SAY on a list of at most eight clips (R135). -/
theorem sayFails_words {gap : Nat} {l : List Word16} {s : State} (hlength : l.length ≤ 8) :
    sayFails gap (l.map (·.toNat)) s =
      if l = [] ∨ (∃ c ∈ l, c.toNat = 0 ∨ 1023 < c.toNat) ∨ 200 < gap then some .badArg
      else if s.clips.dir ≠ .ok then some .clips
      else if ∃ c ∈ l, s.clips.count < c.toNat then some .badArg
      else if s.out.load = .openLoad ∨ s.out.tripped = true then some .audio
      else if 12 < s.speech.queue.length + l.length then some .full
      else none := by
  by_cases hnil : l = []
  · simp [sayFails, hnil]
  have hsome : 0 < l.length := List.length_pos_iff.mpr hnil
  have hfull : 12 - s.speech.queue.length < l.length ↔ 12 < s.speech.queue.length + l.length := by
    omega
  simp [sayFails, Nat.not_lt.mpr hlength, hfull]

theorem exec_say_refused {s : State} {tag gap : Byte} {l : List Word16} {r : Result}
    (hready : ready s = true) (hlength : l.length ≤ 8)
    (h : sayFails gap.toNat (l.map (·.toNat)) s = some r) :
    exec (.say tag gap l) s = .next (refusedWith (.say gap l) tag r s) := by
  have hact : act tag (.say gap l) (heard s) = (heard s, [r.code]) := by
    have hheard : sayFails gap.toNat (l.map (·.toNat)) (heard s) = some r := h
    rw [act, actSay, hheard]; rfl
  exact exec_request rfl hready (decide_eq_true hlength) hact

/-- The state with these entries at the tail of the UTTERANCE QUEUE. -/
def queued (said : List Entry) (s : State) : State :=
  { s with speech := { s.speech with queue := s.speech.queue ++ said } }

theorem exec_say_accepted {s : State} {tag gap : Byte} {l : List Word16}
    (hready : ready s = true) (hlength : l.length ≤ 8)
    (h : sayFails gap.toNat (l.map (·.toNat)) s = none) :
    exec (.say tag gap l) s = .next (answeredOk (.say gap l) tag (endEvent
      (queued (saidEntries tag (10 * gap.toNat) (l.map (·.toNat))) (heard s)).begin)) := by
  have hact : act tag (.say gap l) (heard s) = okay (endEvent
      (queued (saidEntries tag (10 * gap.toNat) (l.map (·.toNat))) (heard s)).begin) := by
    have hheard : sayFails gap.toNat (l.map (·.toNat)) (heard s) = none := h
    rw [act, actSay, hheard]; rfl
  exact exec_request rfl hready (decide_eq_true hlength) hact

/-- One entry for each clip, in order. -/
theorem saidEntries_clips (tag : Byte) (gap : Nat) (cs : List Nat) :
    (saidEntries tag gap cs).map (·.clip) = cs := by
  fun_induction saidEntries tag gap cs with
  | case1 => rfl
  | case2 c => rfl
  | case3 c cs hne ih => rw [List.map_cons, ih]

/-- Every entry carries the tag and the gap given, and the last one alone its mark (R135). -/
theorem saidEntries_getElem? {tag : Byte} {gap : Nat} {cs : List Nat} {i : Nat} {e : Entry}
    (h : (saidEntries tag gap cs)[i]? = some e) :
    e.cls = .said tag (decide (i + 1 = cs.length)) .played ∧ e.gap = gap ∧
      e.skippable = false ∧ e.scripted = false := by
  fun_induction saidEntries tag gap cs generalizing i with
  | case1 => simp at h
  | case2 c =>
    cases i with
    | zero => cases h; exact ⟨rfl, rfl, rfl, rfl⟩
    | succ i => simp at h
  | case3 c cs hne ih =>
    cases i with
    | zero =>
      cases h
      simpa using hne
    | succ i => simpa using ih h

theorem saidEntries_host (tag : Byte) (gap : Nat) (cs : List Nat) :
    ∀ e ∈ saidEntries tag gap cs, e.cls.isSaid = true ∧ e.scripted = false := by
  intro e he
  obtain ⟨i, hi⟩ := List.mem_iff_getElem?.mp he
  obtain ⟨hcls, -, -, hscripted⟩ := saidEntries_getElem? hi
  exact ⟨by rw [hcls]; rfl, hscripted⟩

theorem saidEntries_head_gap {tag : Byte} {gap : Nat} {cs : List Nat} {e : Entry} {es : List Entry}
    (h : saidEntries tag gap cs = e :: es) : e.gap = gap := by
  have hhead : (saidEntries tag gap cs)[0]? = some e := by rw [h]; rfl
  obtain ⟨-, hgap, -⟩ := saidEntries_getElem? hhead
  exact hgap

theorem saidEntries_ne_nil {tag : Byte} {gap : Nat} {cs : List Nat} (h : cs ≠ []) :
    saidEntries tag gap cs ≠ [] := by
  intro hnil
  have hclips := saidEntries_clips tag gap cs
  rw [hnil] at hclips
  exact h hclips.symm

/-- Host speech at the tail gives the drill nothing to do (R69). -/
theorem drillRests_queued {said : List Entry} (s : State)
    (h : ∀ e ∈ said, e.cls.isSaid = true ∧ e.scripted = false) :
    drillRests (queued said s) = drillRests s := by
  have hscripted : said.filter (·.scripted) = [] := by
    simpa using fun e he => (h e he).2
  have hwaits : ∀ c, c.isSaid = false → said.any (fun e => decide (e.cls = c)) = false := by
    intro c hc
    simp only [List.any_eq_false, decide_eq_true_eq]
    rintro e he rfl
    simp [(h e he).1] at hc
  have hheld : scriptedHeld (queued said s).speech.queue = scriptedHeld s.speech.queue := by
    simp only [scriptedHeld, queued, List.filter_append, hscripted, List.append_nil]
  have hfeed : feedDue (queued said s) = feedDue s := by rw [feedDue, hheld]; rfl
  have hover : speechOver (queued said s) = speechOver s := by
    unfold speechOver
    cases hphase : s.drill.phase <;>
      simp [queued, waitsOn, hphase, List.any_append, hwaits .prompt rfl, hwaits .feedback rfl]
  rw [drillRests, hfeed, hover]
  rfl

theorem playerRests_queued {said : List Entry} {s : State} (hplayer : s.speech.player ≠ .idle)
    (h : playerRests s = true) : playerRests (queued said s) = true := by
  cases hp : s.speech.player with
  | idle => exact absurd hp hplayer
  | held => exact playerRests_held hp
  | play p => exact playerRests_play hp
  | gap ms =>
    obtain ⟨e, es, hq, hgap⟩ := (playerRests_gap hp).mp h
    exact (playerRests_gap (s := queued said s) hp).mpr
      ⟨e, es ++ said, congrArg (· ++ said) hq, hgap⟩

/-- A player that is not IDLE goes on as it was when host speech joins the tail. -/
theorem endEvent_queued_behind {said : List Entry} {s : State}
    (hsaid : ∀ e ∈ said, e.cls.isSaid = true ∧ e.scripted = false) (hrest : atRest s = true)
    (hplayer : s.speech.player ≠ .idle) : endEvent (queued said s).begin = queued said s := by
  obtain ⟨hplayerRests, hdrill⟩ := atRest_iff.mp hrest
  exact endEvent_begin (atRest_iff.mpr
    ⟨playerRests_queued hplayer hplayerRests, (drillRests_queued s hsaid).trans hdrill⟩)

/-- An IDLE player at rest takes the first host entry, in the event that queues it (R129). -/
theorem endEvent_queued_first {said es : List Entry} {e : Entry} {s : State} {player : Player}
    (hsaid : ∀ x ∈ said, x.cls.isSaid = true ∧ x.scripted = false)
    (hrest : atRest s = true) (hidle : s.speech.player = .idle) (hcons : said = e :: es)
    (hplayer : (if e.gap ≠ 0 then some (.gap 0) else (playable s e.clip).map Player.play) =
      some player) :
    endEvent (queued said s).begin = (playerTurn player (queued said s).begin).st := by
  obtain ⟨hplayerRests, hdrill⟩ := atRest_iff.mp hrest
  obtain ⟨hqueue, hprobe⟩ := (playerRests_idle hidle).mp hplayerRests
  have hq : (queued said s).speech.queue = e :: es := by simp [queued, hqueue, hcons]
  have hnext : nextPlayer (queued said s) s.out.probe (queued said s).speech.queue =
      some player := by
    rw [hq, nextPlayer_cons _ hprobe]; exact hplayer
  have hrun := runToRest_playerTurn (w := (queued said s).begin) hidle hnext
    ((drillRests_queued s hsaid).trans hdrill)
  rw [endEvent, hrun, dispose_silent (playerTurn_raised _ _)]

/-- Settles O48: the checks are `sayFails_words`, and a SAY that passes them queues its entries
behind a player that goes on, or before an IDLE one that takes the first of them. -/
theorem sayQueuesOrRefuses : Obligations.SayQueuesOrRefuses := by
  intro s tag gap l hready hlength bad
  have hfails := sayFails_words (gap := gap.toNat) (s := s) hlength
  refine ⟨fun hbad => ?_, fun hbad hdir => ?_, fun hbad hdir hcount => ?_,
    fun hbad hdir hcount haudio => ?_, fun hbad hdir hcount hload htripped hfull => ?_,
    fun hbad hdir hcount hload htripped hroom hrest => ?_⟩
  · exact exec_say_refused hready hlength (by rw [hfails, if_pos hbad])
  · exact exec_say_refused hready hlength (by rw [hfails, if_neg hbad, if_pos hdir])
  all_goals rw [if_neg hbad, if_neg (fun hne => hne hdir)] at hfails
  · exact exec_say_refused hready hlength (by rw [hfails, if_pos hcount])
  all_goals
    have hheld : ¬ ∃ c ∈ l, s.clips.count < c.toNat := fun ⟨c, hc, hlt⟩ => Nat.not_lt.mpr (hcount c hc) hlt
    rw [if_neg hheld] at hfails
  · exact exec_say_refused hready hlength (by rw [hfails, if_pos haudio])
  all_goals
    have hheard : ¬ (s.out.load = .openLoad ∨ s.out.tripped = true) := by simp [hload, htripped]
    rw [if_neg hheard] at hfails
  · exact exec_say_refused hready hlength (by rw [hfails, if_pos hfull])
  rw [if_neg (Nat.not_lt.mpr hroom)] at hfails
  rw [exec_say_accepted hready hlength hfails]
  have hsaid := saidEntries_host tag (10 * gap.toNat) (l.map (·.toNat))
  refine ⟨saidEntries tag (10 * gap.toNat) (l.map (·.toNat)), saidEntries_clips _ _ _,
    fun i e he => by simpa using saidEntries_getElem? he, fun hplayer => ?behind,
    fun hidle hgap => ?gap, fun e es p hidle hgap hcons hp => ?plays⟩
  case behind => rw [endEvent_queued_behind (s := heard s) hsaid hrest hplayer]; rfl
  case gap =>
    have hsome : l.map (·.toNat) ≠ [] := fun h => hbad (.inl (List.map_eq_nil_iff.mp h))
    obtain ⟨e, es, hcons⟩ := List.exists_cons_of_ne_nil
      (saidEntries_ne_nil (tag := tag) (gap := 10 * gap.toNat) hsome)
    have he : e.gap ≠ 0 := by rw [saidEntries_head_gap hcons]; omega
    rw [endEvent_queued_first (s := heard s) hsaid hrest hidle hcons (if_pos he)]
    rfl
  case plays =>
    have he : ¬ e.gap ≠ 0 := by rw [saidEntries_head_gap hcons]; omega
    have hplay : (playable (heard s) e.clip).map Player.play = some (.play p) :=
      congrArg (Option.map Player.play) hp
    rw [endEvent_queued_first (s := heard s) hsaid hrest hidle hcons ((if_neg he).trans hplay)]
    refine ⟨_, rfl, ?_⟩
    simp [answeredOk, answered, playerTurn, startClip, queued]

/-! ## RELOAD_CLIPS and GUARD_CLEAR (R125, R160) -/

theorem requestProbe_eq {o : OutputStage} (h : o.probe ≠ .running) :
    requestProbe o = { o with probe := .requested } := by
  cases o with
  | mk load jack probe =>
    cases probe
    case running => exact absurd rfl h
    all_goals rfl

/-- The guard and r cleared and a probe requested (R160). -/
def guardCleared (s : State) : State :=
  { s with out := { s.out with tripped := false, trimDown := 0, probe := .requested } }

theorem actGuardClear_eq {s : State} (h : s.out.probe ≠ .running) :
    actGuardClear s = okay (endEvent (guardCleared s).begin) := by
  have hrequest := requestProbe_eq (o := { s.out with tripped := false, trimDown := 0 }) h
  rw [actGuardClear, if_neg h, hrequest]
  rfl

theorem drillRests_guardCleared (s : State) : drillRests (guardCleared s) = drillRests s :=
  drillRests_congr rfl rfl rfl rfl

theorem playerRests_guardCleared {s : State} (h : s.speech.player ≠ .idle) :
    playerRests (guardCleared s) = playerRests s :=
  playerRests_congr rfl fun hidle => absurd hidle h

/-- Settles O50: the checks of R125 and R160, and a probe requested that an IDLE player lets run. -/
theorem reloadAndGuardClear : Obligations.ReloadAndGuardClear := by
  intro s tag hready
  refine ⟨fun hmode hdir hqueue hplayer => ?reload, fun hnot => ?refused, fun hprobe => ?busy,
    fun hprobe hplayer hrest => ?waits, fun hprobe hidle hrest => ?runs⟩
  case reload =>
    have hsilent : s.speech.player.playing = false := by
      rcases hplayer with h | h <;> rw [h] <;> rfl
    have hact : act tag .reloadClips (heard s) = okay (startRead (heard s)) :=
      if_pos ⟨hmode, hdir, hqueue, hsilent⟩
    exact ⟨startRead (heard s), exec_request rfl hready rfl hact, rfl, rfl, rfl, fun i => by
      simp [startRead, readingDirectory]⟩
  case refused =>
    have hact : act tag .reloadClips (heard s) = refuse .mode (heard s) := by
      refine if_neg fun ⟨hmode, hdir, hqueue, _⟩ => ?_
      rcases hnot with h | h | h | h
      · exact h hmode
      · rcases hdir with hdir | hdir <;> cases h.symm.trans hdir
      · rcases hdir with hdir | hdir <;> cases h.symm.trans hdir
      · exact h hqueue
    exact exec_request rfl hready rfl hact
  case busy =>
    have hact : act tag .guardClear (heard s) = refuse .busy (heard s) := if_pos hprobe
    exact exec_request rfl hready rfl hact
  all_goals
    obtain ⟨hplayerRests, hdrill⟩ := atRest_iff.mp hrest
    have hact : act tag .guardClear (heard s) = _ := actGuardClear_eq (s := heard s) hprobe
    refine exec_request rfl hready rfl (hact.trans ?_)
  case waits =>
    have hcleared : atRest (guardCleared (heard s)) = true :=
      atRest_iff.mpr ⟨(playerRests_guardCleared (s := heard s) hplayer).trans hplayerRests,
        (drillRests_guardCleared (heard s)).trans hdrill⟩
    rw [endEvent_begin hcleared]
    rfl
  case runs =>
    have hrun := runToRest_playerTurn (w := (guardCleared (heard s)).begin) hidle
      (nextPlayer_requested _ _) ((drillRests_guardCleared (heard s)).trans hdrill)
    rw [endEvent, hrun, dispose_silent rfl]
    rfl

/-! ## Which clips can be played (R131, R191) -/

theorem usable_eq_some {d : DirEntry} {c : Coding} : d.usable = some c ↔
    d.coding = some c ∧ 0 < d.count ∧ -6 ≤ d.trim ∧ d.trim ≤ 3 ∧
      d.start + d.count * c.width ≤ 16777216 := by
  cases hc : d.coding with
  | none => simp [DirEntry.usable, hc]
  | some c' =>
    simp only [DirEntry.usable, hc, Option.ite_none_right_eq_some, Option.some.injEq,
      Nat.pos_iff_ne_zero]
    constructor
    · rintro ⟨h, rfl⟩; exact ⟨rfl, h⟩
    · rintro ⟨rfl, h⟩; exact ⟨h, rfl⟩

theorem playable_eq_some {s : State} {n : Nat} {p : Playing} : playable s n = some p ↔
    1 ≤ n ∧ n ≤ s.clips.count ∧ (readEntry s.flash n).usable = some p.coding ∧
      p = { clip := n, coding := p.coding, trim := (readEntry s.flash n).trim,
            count := (readEntry s.flash n).count, handed := 0, refused := false } := by
  constructor
  · intro h
    obtain ⟨h1, hn, hu, rfl, htrim, hcount, hhanded, hrefused⟩ := playable_some h
    exact ⟨h1, hn, hu, by rw [← htrim, ← hcount, ← hhanded, ← hrefused]⟩
  · rintro ⟨h1, hn, hu, hp⟩
    rw [playable, if_pos ⟨h1, hn⟩, hp]
    simp only [hu]

theorem readEntry_coding {bytes : List Byte} {n : Nat} {c : Coding} :
    (readEntry bytes n).coding = some c ↔
      (flashByte bytes (149 + 8 * (n - 1) + 6) = 0x00#8 ∧ c = .pcm8) ∨
      (flashByte bytes (149 + 8 * (n - 1) + 6) = 0x01#8 ∧ c = .pcm16) := by
  by_cases h0 : flashByte bytes (149 + 8 * (n - 1) + 6) = 0x00#8
  · simp [readEntry, entryAddress, h0, eq_comm]
  by_cases h1 : flashByte bytes (149 + 8 * (n - 1) + 6) = 0x01#8
  · simp [readEntry, entryAddress, h1, eq_comm]
  · simp [readEntry, entryAddress, h0, h1]

/-- A clip can be played exactly with a usable entry of the directory: its coding known, samples to
play, a trim in range, and its samples within the flash (R131). -/
theorem playable_iff {s : State} {n : Nat} {p : Playing} : playable s n = some p ↔
    let d := readEntry s.flash n
    let coded := flashByte s.flash (149 + 8 * (n - 1) + 6)
    1 ≤ n ∧ n ≤ s.clips.count ∧ 0 < d.count ∧ -6 ≤ d.trim ∧ d.trim ≤ 3 ∧
    (coded = 0x00#8 ∧ d.start + d.count ≤ 16777216 ∧
        p = { clip := n, coding := .pcm8, trim := d.trim, count := d.count, handed := 0,
              refused := false } ∨
      coded = 0x01#8 ∧ d.start + 2 * d.count ≤ 16777216 ∧
        p = { clip := n, coding := .pcm16, trim := d.trim, count := d.count, handed := 0,
              refused := false }) := by
  rw [playable_eq_some, usable_eq_some, readEntry_coding]
  constructor
  · rintro ⟨h1, hn, ⟨⟨h6, hc⟩ | ⟨h6, hc⟩, hcount, hlow, hhigh, hend⟩, hp⟩
    all_goals
      rw [hc] at hend hp
      simp only [Coding.width] at hend
    · exact ⟨h1, hn, hcount, hlow, hhigh, .inl ⟨h6, by omega, hp⟩⟩
    · exact ⟨h1, hn, hcount, hlow, hhigh, .inr ⟨h6, by omega, hp⟩⟩
  · rintro ⟨h1, hn, hcount, hlow, hhigh, ⟨h6, hend, rfl⟩ | ⟨h6, hend, rfl⟩⟩
    · exact ⟨h1, hn, ⟨.inl ⟨h6, rfl⟩, hcount, hlow, hhigh, by rw [Coding.width]; omega⟩, rfl⟩
    · exact ⟨h1, hn, ⟨.inr ⟨h6, rfl⟩, hcount, hlow, hhigh, by rw [Coding.width]; omega⟩, rfl⟩

/-! ## The end of a gap (R129 to R131, R135) -/

/-- The clip started, the part is at rest as it was in the gap. -/
theorem atRest_startClip {w : Work} (p : Playing) (h : atRest w.st = true) :
    atRest (startClip p w).st = true :=
  atRest_iff.mpr ⟨playerRests_play rfl,
    (drillRests_congr rfl rfl rfl rfl).trans (atRest_iff.mp h).2⟩

theorem exec_gapEnd {s : State} {ms : Nat} (h : s.speech.player = .gap ms) :
    exec .gapEnd s = .next (conclude (enterPlay s.begin)) := by
  simp only [exec, execGapEnd, h]

/-- A gap's end that starts a clip does nothing else. -/
theorem exec_gapEnd_starts {s : State} {ms : Nat} {p : Playing} (hgap : s.speech.player = .gap ms)
    (hrest : atRest s = true) (henter : enterPlay s.begin = startClip p s.begin) :
    exec .gapEnd s = .next (transmit (startClip p s.begin).st) := by
  rw [exec_gapEnd hgap, henter, conclude_atRest (atRest_startClip (w := s.begin) p hrest),
    finish_silent rfl]

theorem enterPlay_refused {w : Work} {e : Entry} {es : List Entry} {p : Playing}
    (hqueue : w.st.speech.queue = e :: es) (hnone : playable w.st e.clip = none)
    (hsaid : e.cls.isSaid = true) (hp : playable w.st (roleClip w.st.clips .notNow) = some p) :
    enterPlay w = startClip { p with refused := true } w := by
  simp only [enterPlay, hqueue, hnone, hsaid, if_true, hp]

/-- The head entry has left from its gap, with no close for the OUTPUT STAGE (R131). -/
def headPassed (es : List Entry) (w : Work) : Work :=
  { w with st := { w.st with speech := { queue := es, player := .idle }, clips.spi := none } }

theorem enterPlay_passes {w : Work} {ms : Nat} {e : Entry} {es : List Entry}
    (hgap : w.st.speech.player = .gap ms) (hqueue : w.st.speech.queue = e :: es)
    (hnone : playable w.st e.clip = none) (hsaid : e.cls.isSaid = false) :
    enterPlay w = headPassed es w := by
  simp [enterPlay, leaveHead, headPassed, hqueue, hnone, hsaid, hgap, saidLeaves_drill hsaid]

/-- No phase ends while an entry of the class it waits on stands in the queue (R69). -/
theorem speechOver_of_stillSpeaks {s : State}
    (h : stillSpeaks s.drill.phase s.speech.queue = true) : speechOver s = false := by
  cases hphase : s.drill.phase <;> simp_all [stillSpeaks, speechOver, waitsOn]

theorem drillRests_headPassed {es : List Entry} {w : Work} (hrest : atRest w.st = true)
    (hscript : w.st.drill.script = []) (hspeaks : stillSpeaks w.st.drill.phase es = true) :
    drillRests (headPassed es w).st = true := by
  obtain ⟨-, hkey, -⟩ := drillRests_iff.mp (atRest_iff.mp hrest).2
  exact drillRests_iff.mpr ⟨by simp [feedDue, headPassed, hscript], hkey,
    speechOver_of_stillSpeaks hspeaks⟩

/-- The last prompt gone, the presentation ends and LISTEN begins, where the part rests (R71). -/
theorem runToRest_lastPrompt {w : Work} {player : Player} (hidle : w.st.speech.player = .idle)
    (hnext : nextPlayer w.st w.st.out.probe w.st.speech.queue = some player)
    (hqueue : w.st.speech.queue = []) (hphase : w.st.drill.phase = .present)
    (hscript : w.st.drill.script = []) (hfifo : w.st.keys.fifo = []) :
    runToRest w = enterListen (playerTurn player w) := by
  obtain ⟨n, hrun⟩ := runToRest_eq_playerTurn hidle hnext
  have hplayer := playerRests_playerTurn hidle hnext
  have hover : micro (playerTurn player w) = some (enterListen (playerTurn player w)) := by
    rw [micro_of_speechOver hplayer]
    · simp [endPhase, hphase]
    · simp [feedDue, hscript]
    · simp [keyDue, hfifo]
    · simp [speechOver, waitsOn, hphase, hscript, hqueue]
  have hlisten : atRest (enterListen (playerTurn player w)).st = true := by
    refine atRest_iff.mpr ⟨?_, drillRests_iff.mpr ⟨?_, ?_, ?_⟩⟩
    · exact (playerRests_congr rfl fun _ => rfl).trans hplayer
    · simp [feedDue, enterListen, hscript]
    · simp [keyDue, enterListen, hfifo]
    · simp [speechOver, waitsOn, enterListen]
  rw [hrun, runOn_step hover, runOn_atRest hlisten]

/-- Settles O51: which clips can be played is `playable_iff`; a clip started leaves the part at
rest, and an entry that passes is followed by the player's turn, after which the drill rests or, the last
prompt gone, enters LISTEN. -/
theorem gapsEndInPlay : Obligations.GapsEndInPlay := by
  refine ⟨fun s n => ⟨fun i => flashByte s.flash (149 + 8 * (n - 1) + i),
      (readEntry s.flash n).start, (readEntry s.flash n).count, (readEntry s.flash n).trim,
      fun _ => rfl, rfl, rfl, rfl, rfl, fun _ => playable_iff⟩,
    fun s ms e es hgap hqueue hrest => ⟨?plays, ?refused, ?passes, ?last⟩⟩
  case plays =>
    intro p hp
    obtain ⟨-, -, -, hclip, -⟩ := playable_some hp
    rw [← hclip]
    exact exec_gapEnd_starts hgap hrest (enterPlay_playable hqueue hp)
  case refused =>
    intro p hnone hsaid hp
    obtain ⟨-, -, -, hclip, -⟩ := playable_some hp
    refine ⟨_, exec_gapEnd_starts hgap hrest (enterPlay_refused hqueue hnone hsaid hp), ?_⟩
    simp [startClip, startEntry, hclip]
  case passes =>
    intro player hnone hsaid hscript hspeaks hnext
    have hrun := runToRest_playerTurn (w := headPassed es s.begin) rfl hnext
      (drillRests_headPassed hrest hscript hspeaks)
    have hspeech := playerTurn_speech (w := headPassed es s.begin) rfl hnext
    have hexec : exec .gapEnd s =
        .next (transmit (playerTurn player (headPassed es s.begin)).st) := by
      rw [exec_gapEnd hgap, enterPlay_passes hgap hqueue hnone hsaid, conclude_eq_finish hrun,
        finish_silent (playerTurn_raised _ _)]
    refine ⟨_, hexec, (transmit_speech _).trans hspeech, ?_⟩
    simp [headPassed]
  case last =>
    rintro hnone - hphase hprompt rfl hscript hfifo
    have hsaid : e.cls.isSaid = false := by rw [hprompt]; rfl
    have hnext := nextPlayer_nil (headPassed [] s.begin).st s.out.probe
    have hrun := runToRest_lastPrompt (w := headPassed [] s.begin) rfl hnext rfl hphase hscript
      hfifo
    have hspeech := playerTurn_speech (w := headPassed [] s.begin) rfl hnext
    have hexec : exec .gapEnd s = .next (finish (enterListen (playerTurn
        (if s.out.probe = .requested then .held else .idle) (headPassed [] s.begin)))) := by
      rw [exec_gapEnd hgap, enterPlay_passes hgap hqueue hnone hsaid, conclude_eq_finish hrun]
    refine ⟨_, hexec, (finish_speech _).trans hspeech, ?_⟩
    simp [enterListen, headPassed]

end Sys2Proof.Machine
end

section

/-! PROOFS. The OUTPUT STAGE (chapter 8): the effective step and the multiplier table (O52), the
scaling of samples (O53), and the probe that a JACK change asks for (O55). -/

namespace Sys2Proof.Machine

open Sys2Proof

/-! ## The effective step (R146) -/

section
variable {p : Params} {o : OutputStage}

theorem effectiveStep_silent (h : p.volume = 0 ∨ o.tripped = true) : effectiveStep p o = 0 :=
  if_pos h

theorem effectiveStep_openLoad (h : o.load = .openLoad) : effectiveStep p o = 0 := by
  simp [effectiveStep, capInForce, h]

theorem effectiveStep_capped {cap : Nat} (hvolume : p.volume ≠ 0) (htripped : o.tripped = false)
    (hcap : capInForce p o.load = some cap) :
    effectiveStep p o = max 1 (min p.volume cap - o.trimDown) := by
  simp [effectiveStep, hvolume, htripped, hcap]

end

/-! ## The multiplier table (R148) -/

/-- `2 * m - 1` and `2 * m + 1` lie on the two sides of `8192 * 10 ^ ((k - 31) / 10)`: the tenth
power clears the root, and for k up to 31 the factor `10 ^ (31 - k)` the negative exponent. -/
theorem multiplier_nearest_upTo31 : ∀ k ≤ 31, 1 ≤ k →
    (2 * multiplier k - 1) ^ 10 * 10 ^ (31 - k) ≤ 8192 ^ 10 ∧
    8192 ^ 10 < (2 * multiplier k + 1) ^ 10 * 10 ^ (31 - k) := by decide

theorem multiplier_nearest_from31 : ∀ k ≤ 34, 31 ≤ k →
    (2 * multiplier k - 1) ^ 10 ≤ 8192 ^ 10 * 10 ^ (k - 31) ∧
    8192 ^ 10 * 10 ^ (k - 31) < (2 * multiplier k + 1) ^ 10 := by decide

/-- Settles O52: the step by what silences it or by the cap in force, and the table row by row. -/
theorem stepsAndMultipliers : Obligations.StepsAndMultipliers := by
  refine ⟨fun p o => ⟨?silent, ?capped⟩, fun k hlow hhigh => multiplier_nearest_upTo31 k hhigh hlow,
    fun k hlow hhigh => multiplier_nearest_from31 k hhigh hlow⟩
  case silent =>
    rintro (hvolume | htripped | hload)
    · exact effectiveStep_silent (.inl hvolume)
    · exact effectiveStep_silent (.inr htripped)
    · exact effectiveStep_openLoad hload
  case capped =>
    intro cap hvolume htripped hload
    have hcap : capInForce p o.load = some cap := by
      rcases hload with ⟨hload, rfl⟩ | ⟨hload, rfl⟩ <;> rw [hload] <;> rfl
    have hstep := effectiveStep_capped hvolume htripped hcap
    exact ⟨hstep, fun hpos => by omega⟩

/-! ## Scaling a sample (R147, R149, R191) -/

theorem sampleValue_pcm16 (miso : SampleBytes) :
    sampleValue .pcm16 miso = (miso.first.toNat : Int) + 256 * miso.second.toInt := by
  rw [sampleValue, BitVec.toInt_append]
  simp [Int.add_comm]

theorem sampleIndex_cast (e : Nat) (trim : Int) :
    (sampleIndex e trim : Int) = max 1 (min 34 ((e : Int) + trim)) := by
  unfold sampleIndex; omega

/-- The product is divided by 4096, a half added first and the quotient rounded down. -/
theorem scaled_bounds (e : Nat) (trim x : Int) :
    4096 * scaled e trim x ≤ x * (multiplier (sampleIndex e trim) : Int) + 2048 ∧
    x * (multiplier (sampleIndex e trim) : Int) + 2048 < 4096 * (scaled e trim x + 1) := by
  unfold scaled; omega

theorem saturate_eq (q : Int) : saturate q = max (-32768) (min 32767 q) := by
  unfold saturate; omega

theorem outputSample_zero (trim x : Int) : outputSample 0 trim x = 0 := rfl

theorem outputSample_pos {e : Nat} (h : e ≠ 0) (trim x : Int) :
    outputSample e trim x = max (-32768) (min 32767 (scaled e trim x)) := by
  rw [outputSample, if_neg h, saturate_eq]

theorem saturates_zero (trim x : Int) : saturates 0 trim x = false := rfl

theorem saturates_pos {e : Nat} (h : e ≠ 0) (trim x : Int) :
    saturates e trim x = true ↔ 32767 < scaled e trim x ∨ scaled e trim x < -32768 := by
  simp [saturates, h]

theorem exec_sampleOut {s : State} {p : Playing} (miso : SampleBytes)
    (hplay : s.speech.player = .play p) (hleft : p.handed < p.count) :
    exec (.sampleOut miso) s = .next (playSample p miso s) := by
  simp only [exec, execSampleOut, hplay, if_pos hleft]

/-- Settles O53: the value, the quotient and the saturation are those of `playSample`. -/
theorem samplesAreScaled : Obligations.SamplesAreScaled := by
  intro s p miso hplay hleft
  obtain ⟨hlow, hhigh⟩ :=
    scaled_bounds (effectiveStep s.params s.out) p.trim (sampleValue p.coding miso)
  refine ⟨sampleValue p.coding miso, outputSample (effectiveStep s.params s.out) p.trim _, _, _,
    saturates (effectiveStep s.params s.out) p.trim _, ?value, sampleIndex_cast _ _, hlow, hhigh,
    fun hzero => ?silent, fun hpos => ⟨outputSample_pos hpos _ _, saturates_pos hpos _ _⟩,
    exec_sampleOut miso hplay hleft⟩
  case value =>
    cases p.coding with
    | pcm8 => rfl
    | pcm16 => exact sampleValue_pcm16 miso
  case silent =>
    rw [hzero]
    exact ⟨outputSample_zero _ _, saturates_zero _ _⟩

/-! ## The load probe requested (R152, R153) -/

theorem requestProbe_running {o : OutputStage} (h : o.probe = .running) :
    requestProbe o = { o with oneMore := true } := by
  simp only [requestProbe, h]

/-- The JACK state changed and a probe requested (R152). -/
def jackTaken (jack : Jack) (s : State) : State :=
  { s with out := requestProbe { s.out with jack := jack } }

theorem exec_jackChange {s : State} {jack : Jack} (hactive : s.power.power = .active)
    (hjack : jack ≠ s.out.jack) :
    exec (.jackChange jack) s = .next (conclude (jackTaken jack s).begin) := by
  rw [exec, execJackChange, if_pos ⟨hactive, hjack⟩, jackTaken]

section
variable {s : State} (jack : Jack)

@[simp] theorem jackTaken_drill : (jackTaken jack s).drill = s.drill := rfl
@[simp] theorem jackTaken_bank : (jackTaken jack s).bank = s.bank := rfl
@[simp] theorem jackTaken_speech : (jackTaken jack s).speech = s.speech := rfl

theorem jackTaken_running (h : s.out.probe = .running) :
    (jackTaken jack s).out = { s.out with jack := jack, oneMore := true } :=
  requestProbe_running (o := { s.out with jack := jack }) h

theorem jackTaken_not_running (h : s.out.probe ≠ .running) :
    (jackTaken jack s).out = { s.out with jack := jack, probe := .requested } :=
  requestProbe_eq (o := { s.out with jack := jack }) h

theorem drillRests_jackTaken : drillRests (jackTaken jack s) = drillRests s :=
  drillRests_congr rfl rfl rfl rfl

/-- With a probe running, or the player not between entries, nothing more follows. -/
theorem conclude_jackTaken_waits (hrest : atRest s = true)
    (hwaits : s.out.probe = .running ∨ s.speech.player ≠ .idle) :
    conclude (jackTaken jack s).begin = transmit (jackTaken jack s) := by
  obtain ⟨hplayer, hdrill⟩ := atRest_iff.mp hrest
  have hkeeps : s.speech.player = .idle → (jackTaken jack s).out.probe = s.out.probe := by
    intro hidle
    rcases hwaits with hrunning | hbusy
    · rw [jackTaken_running jack hrunning]
    · exact absurd hidle hbusy
  have htaken : atRest (jackTaken jack s).begin.st = true :=
    atRest_iff.mpr ⟨(playerRests_congr (s := s) (t := jackTaken jack s) rfl hkeeps).trans hplayer,
      (drillRests_jackTaken jack).trans hdrill⟩
  rw [conclude_atRest htaken, finish_silent rfl, State.begin_st]

/-- With the player between entries the probe runs at once (R132). -/
theorem conclude_jackTaken_runs (hrest : atRest s = true) (hprobe : s.out.probe ≠ .running)
    (hidle : s.speech.player = .idle) :
    conclude (jackTaken jack s).begin = transmit (probeStarts (jackTaken jack s).begin).st := by
  obtain ⟨-, hdrill⟩ := atRest_iff.mp hrest
  have hrequested : (jackTaken jack s).out.probe = .requested := by
    rw [jackTaken_not_running jack hprobe]
  have hnext : nextPlayer (jackTaken jack s) (jackTaken jack s).out.probe
      (jackTaken jack s).speech.queue = some .held := by
    rw [hrequested, nextPlayer_requested]
  have hrun := runToRest_playerTurn (w := (jackTaken jack s).begin) hidle hnext
    ((drillRests_jackTaken jack).trans hdrill)
  rw [conclude_eq_finish hrun, finish_silent rfl]
  rfl

end

/-- Settles O55: the probe asked for runs where the player is IDLE and no probe runs, and else the
part stays at rest with the request or the one-more mark. -/
theorem jackChangesAskForAProbe : Obligations.JackChangesAskForAProbe := by
  intro s jack hactive hjack hrest
  refine ⟨conclude (jackTaken jack s).begin, exec_jackChange hactive hjack, ?_⟩
  by_cases hprobe : s.out.probe = .running
  · rw [conclude_jackTaken_waits jack hrest (.inl hprobe)]
    simp [jackTaken_running jack hprobe, hprobe]
  by_cases hidle : s.speech.player = .idle
  · rw [conclude_jackTaken_runs jack hrest hprobe hidle]
    simp [probeStarts, startProbe, jackTaken_not_running jack hprobe, hprobe, hidle]
  · rw [conclude_jackTaken_waits jack hrest (.inr hidle)]
    simp [jackTaken_not_running jack hprobe, hprobe, hidle]

end Sys2Proof.Machine
end

section

/-! PROOFS. The part asleep (chapter 9): no command but a reset or the end of the wake settle
reaches the lesson, the speech or the output (O7), and what wakes the part (O59). -/

namespace Sys2Proof.Machine

open Sys2Proof

/-! ## What a sleep can change (R164 to R167) -/

/-- Nothing differs but the LINK PORT, what the slow scans keep of the positions and their clock, and
the marks of a wake. -/
def SleepsOn (s t : State) : Prop :=
  t = { s with
    link := t.link
    keys := { s.keys with keys := t.keys.keys, scanTime := t.keys.scanTime }
    power := { s.power with settle := t.power.settle, wakeReason := t.power.wakeReason,
                            wakeKey := t.power.wakeKey } }

theorem SleepsOn.refl (s : State) : SleepsOn s s := rfl

theorem SleepsOn.trans {s t u : State} (h : SleepsOn s t) (k : SleepsOn t u) : SleepsOn s u := by
  unfold SleepsOn at h k ⊢
  rw [k, h]

theorem sleepsOn_link (s : State) (l : LinkPort) : SleepsOn s { s with link := l } := rfl

theorem SleepsOn.power {s t : State} (h : SleepsOn s t) : t.power.power = s.power.power := by
  rw [h]

theorem SleepsOn.asleep {s t : State} (h : SleepsOn s t) (hs : Asleep s) : Asleep t := by
  obtain ⟨hpower, hpending, hqueue, hplayer, hprobe, hreading⟩ := hs
  rw [h]
  exact ⟨hpower, hpending, hqueue, hplayer, hprobe, hreading⟩

/-! ## The LINK PORT asleep (R163, R165, R167) -/

theorem transmit_sleepsOn (s : State) : SleepsOn s (transmit s) := by
  obtain ⟨x, h⟩ := transmit_frame s
  rw [h]; exact sleepsOn_link s _

/-- No request is taken in SLEEP (R163, R175). -/
theorem takeWaiting_asleep {s : State} (h : s.power.power = .sleep) : takeWaiting s = s := by
  simp [takeWaiting, canTake, h]

theorem takeWaiting_sleepsOn {s : State} (h : s.power.power = .sleep) :
    SleepsOn s (takeWaiting s) := by
  rw [takeWaiting_asleep h]; exact SleepsOn.refl s

theorem ready_asleep {s : State} (h : s.power.power = .sleep) : ready s = false := by
  simp [ready, canTake, h]

/-- A frame discarded with its LINK_FAULT changes the LINK PORT alone (R174). -/
theorem linkFault_frame (cause : LinkCause) (kind : Option Byte) (rx : Receiver) (s : State) :
    ∃ l, linkFault cause kind rx s = { s with link := l } := by
  obtain ⟨x, h⟩ := transmit_frame
    (dispose ((State.begin { s with link.rx := rx }).raise (.linkFault cause kind)))
  exact ⟨_, h⟩

theorem linkFault_sleepsOn (cause : LinkCause) (kind : Option Byte) (rx : Receiver) (s : State) :
    SleepsOn s (linkFault cause kind rx s) := by
  obtain ⟨l, h⟩ := linkFault_frame cause kind rx s
  rw [h]; exact sleepsOn_link s l

/-- A whole frame that comes in SLEEP, during the settle, waits in the receive buffer (R168). -/
theorem frameByte_sleepsOn (bs : List Byte) (b : Byte) {s : State} (h : s.power.power = .sleep) :
    SleepsOn s (frameByte bs b s) := by
  unfold frameByte
  split
  · split
    · exact linkFault_sleepsOn _ _ _ _
    · exact sleepsOn_link s _
  · split
    · exact sleepsOn_link s _
    · split
      · refine (sleepsOn_link s _).trans (.trans (takeWaiting_sleepsOn ?_) (transmit_sleepsOn _))
        exact h
      · exact linkFault_sleepsOn _ _ _ _
  · exact sleepsOn_link s _

theorem receive_sleepsOn (b : Byte) {s : State} (h : s.power.power = .sleep) :
    SleepsOn s (receive b s) := by
  have hheard : SleepsOn s (heard s) := sleepsOn_link s _
  unfold receive
  simp only
  split
  · split
    · exact rfl
    · exact hheard
  split
  · split
    · split
      · exact hheard.trans (linkFault_sleepsOn _ _ _ _)
      · exact sleepsOn_link s _
    · exact hheard
  · split
    · exact hheard.trans (linkFault_sleepsOn _ _ _ _)
    · exact hheard.trans (frameByte_sleepsOn _ _ h)
  all_goals exact sleepsOn_link s _

theorem receiveAll_sleepsOn (bs : List Byte) {s : State} (h : s.power.power = .sleep) :
    SleepsOn s (receiveAll bs s) := by
  induction bs generalizing s with
  | nil => exact SleepsOn.refl s
  | cons b bs ih =>
    have hb := receive_sleepsOn b h
    exact hb.trans (ih (hb.power.trans h))

/-- A request row's frame arrives byte by byte, for the port is not ready. -/
theorem deliver_sleepsOn (tag : Byte) (r : Request) {s : State} (h : s.power.power = .sleep) :
    SleepsOn s (deliver tag r s) := by
  rw [deliver_notReady tag r (ready_asleep h)]
  exact receiveAll_sleepsOn _ h

theorem deliverFrame_sleepsOn (f : Frame) {s : State} (h : s.power.power = .sleep) :
    SleepsOn s (deliverFrame f s) := by
  rw [deliverFrame, ready_asleep h]
  exact receiveAll_sleepsOn _ h

/-- A reply whose last byte leaves in SLEEP empties the slot, and a reset stays pending (R163). -/
theorem replySent_asleep {s : State} (h : Asleep s) :
    replySent s = { s with link.reply := none } := by
  simp [replySent, h.pending, h.power]

theorem frameSent_sleepsOn {s : State} (h : Asleep s) : SleepsOn s (frameSent s) := by
  unfold frameSent
  split
  · exact SleepsOn.refl s
  · simp only
    split
    · rw [replySent_asleep ((sleepsOn_link s _).asleep h)]
      exact (sleepsOn_link s _).trans (transmit_sleepsOn _)
    · exact (sleepsOn_link s _).trans (transmit_sleepsOn _)

/-! ## The slow scan (R98, R166) -/

/-- The tests of the next slow scan, 32 ms after the last. -/
abbrev nextSlowTests (levels : BitVec 48) (s : State) : Vector Tested 48 :=
  slowTests s.params.debounce (s.keys.scanTime + 32) levels s.keys

/-- The marks of the POWER CONTROLLER after these accepted presses: the lowest wakes the part
(R166). -/
def wakeMarks (presses : List Nat) (s : State) : PowerControl :=
  match presses with
  | [] => s.power
  | pos :: _ =>
    { s.power with settle := true, wakeReason := .key, wakeKey := some (codeAt s.keys pos, pos) }

/-- A slow scan keeps what its tests make of the positions and sets the marks of a wake; nothing
else changes, and no key event is made. -/
theorem slowScan_eq (levels : BitVec 48) (s : State) : slowScan levels s = { s with
    keys := { s.keys with keys := Vector.ofFn fun i => ((nextSlowTests levels s)[i]).pos,
                          scanTime := s.keys.scanTime + 32 }
    power := wakeMarks (acceptedAt true (nextSlowTests levels s)) s } := by
  cases h : acceptedAt true (nextSlowTests levels s) <;>
    simp only [slowScan, nextSlowTests, wakeMarks, h]

theorem slowScan_sleepsOn (levels : BitVec 48) (s : State) : SleepsOn s (slowScan levels s) := by
  rw [slowScan_eq]
  cases acceptedAt true (nextSlowTests levels s) <;> rfl

/-- A position whose code is not in the wake set is not scanned (R98). -/
theorem slowScan_unwatched {levels : BitVec 48} {s : State} {i : Fin 48}
    (h : watched s.keys i.val = false) : (slowScan levels s).keys.keys[i] = s.keys.keys[i] := by
  rw [slowScan_eq]
  simp [nextSlowTests, slowTests, h]

/-- The accepted changes of a scan are listed from the lowest position up. -/
theorem acceptedAt_increasing (down : Bool) (ts : Vector Tested 48) :
    (acceptedAt down ts).Pairwise (· < ·) := by
  have hpositions : (ts.toList.zipIdx.map (·.2)).Pairwise (· < ·) := by
    rw [List.zipIdx_map_snd]
    exact List.pairwise_lt_range'
  exact hpositions.sublist (List.filter_sublist.map _)

theorem exec_slowKeyScan {s : State} (levels : BitVec 48) (hsleep : s.power.power = .sleep)
    (hsettle : s.power.settle = false) :
    exec (.slowKeyScan levels) s = .next (slowScan levels s) := by
  rw [exec, execSlowKeyScan, if_pos ⟨hsleep, hsettle⟩]

/-! ## The commands asleep -/

/-- The commands that find nothing to do in SLEEP: scans and JACK changes are not watched, no read,
probe or entry is under way, and neither timer runs (R164, R165). -/
def needsAwake : Instr → Bool
  | .directoryReadDone _ | .keyScan _ | .jackChange _ | .loadProbeDone _ | .surgeEvent | .gapEnd
  | .sampleOut _ | .entryEnd | .lessonSecond | .attentionNudge | .attentionPause => true
  | _ => false

theorem lessonCounts_asleep {s : State} (h : s.power.power = .sleep) : lessonCounts s = false := by
  simp [lessonCounts, h]

theorem stageReached_asleep {s : State} (h : s.power.power = .sleep) : stageReached s = false := by
  simp [stageReached, attentionRuns, h]

theorem exec_needsAwake {c : Instr} {s : State} (h : Asleep s) (hc : needsAwake c = true) :
    exec c s = .next s := by
  cases c
  case directoryReadDone bytes => rw [exec, execDirectoryReadDone, if_neg h.reading]
  case keyScan levels => simp [exec, execKeyScan, h.power]
  case jackChange jack => simp [exec, execJackChange, h.power]
  case loadProbeDone milliohms => simp [exec, execLoadProbeDone, h.probe]
  case surgeEvent => simp only [exec, execSurgeEvent, h.player]
  case gapEnd => simp only [exec, execGapEnd, h.player]
  case sampleOut miso => simp only [exec, execSampleOut, h.player]
  case entryEnd => simp only [exec, execEntryEnd, h.player]
  case lessonSecond => simp [exec, execLessonSecond, lessonCounts_asleep h.power]
  case attentionNudge => simp [exec, execAttentionNudge, stageReached_asleep h.power]
  case attentionPause => simp [exec, execAttentionPause, stageReached_asleep h.power]
  all_goals cases hc

/-- A request row sends its request's frame. -/
theorem exec_of_request? {c : Instr} {tag : Byte} {r : Request} (h : c.request? = some (tag, r))
    (s : State) : exec c s = .next (deliver tag r s) := by
  cases c <;> cases h <;> rfl

/-- Asleep, a command that ends no sleep lets the part sleep on: it is a frame or byte on the link,
the end of one, a slow scan, or nothing that the part watches. -/
theorem exec_sleepsOn {c : Instr} {s : State} (h : Asleep s) (hc : endsSleep c = false) :
    ∃ t, exec c s = .next t ∧ SleepsOn s t := by
  by_cases hawake : needsAwake c = true
  · exact ⟨s, exec_needsAwake h hawake, SleepsOn.refl s⟩
  cases hrequest : c.request? with
  | some row => exact ⟨_, exec_of_request? hrequest s, deliver_sleepsOn _ _ h.power⟩
  | none =>
    cases c
    case rxByte b => exact ⟨_, rfl, receive_sleepsOn b h.power⟩
    case rxTimeout =>
      refine ⟨_, rfl, ?_⟩
      split
      · split
        · exact linkFault_sleepsOn _ _ _ _
        · exact SleepsOn.refl s
      · exact SleepsOn.refl s
    case overflowDiscardTimeout =>
      refine ⟨_, rfl, ?_⟩
      split
      · exact sleepsOn_link s _
      · exact SleepsOn.refl s
    case wakeFrameTimeout =>
      refine ⟨_, rfl, ?_⟩
      split
      · exact sleepsOn_link s _
      · exact SleepsOn.refl s
    case txFrameDone => exact ⟨_, rfl, frameSent_sleepsOn h⟩
    case unknownKind kind tag payload => exact ⟨_, rfl, deliverFrame_sleepsOn _ h.power⟩
    case slowKeyScan levels =>
      refine ⟨_, rfl, ?_⟩
      split
      · exact slowScan_sleepsOn levels s
      · exact SleepsOn.refl s
    case powerOnReset | pinReset | wakeSettleEnd => cases hc
    case directoryReadDone | keyScan | jackChange | loadProbeDone | surgeEvent | gapEnd
        | sampleOut | entryEnd | lessonSecond | attentionNudge | attentionPause =>
      exact absurd rfl hawake
    all_goals cases hrequest

/-- Settles O7: what a sleep can change (`SleepsOn`) is none of what the statement names. -/
theorem asleepChangesNothing : Obligations.AsleepChangesNothing := by
  intro c s t hs hc hexec
  obtain ⟨u, hu, hsleeps⟩ := exec_sleepsOn hs hc
  obtain rfl : u = t := Host.Outcome.next.inj (hu.symm.trans hexec)
  refine ⟨hsleeps.asleep hs, ?_⟩
  rw [hsleeps]
  exact ⟨rfl, rfl, rfl, rfl, rfl, rfl, rfl, rfl, rfl, rfl, rfl⟩

/-! ## What wakes the part (R165 to R167) -/

theorem receive_asleep {s : State} (b : Byte) (hsleep : s.power.power = .sleep)
    (hsettle : s.power.settle = false) (hrx : s.link.rx = .hunt) :
    receive b s = if b = Config.startByte then
      { s with link := { s.link with silence := 0, rx := .wakeLength }
               power := { s.power with settle := true, wakeReason := .link, wakeKey := none } }
    else heard s := by
  have hhunts : s.link.rx.wakeFrame = false := by rw [hrx]; rfl
  rw [receive, if_pos ⟨hsleep, hsettle, hhunts⟩]
  rfl

/-- Settles O59: a slow scan by `slowScan_eq`, a byte by `receive_asleep`. -/
theorem keysAndFramesWake : Obligations.KeysAndFramesWake := by
  intro s hsleep hsettle
  refine ⟨fun levels => ⟨slowScan levels s, exec_slowKeyScan levels hsleep hsettle,
    fun i hi => slowScan_unwatched hi, fun hnone => ?quiet, fun pos more hpress => ⟨?wakes, ?lowest⟩,
    ?frame⟩, fun hrx => ?start, fun b hrx hb => ?other⟩
  case quiet => rw [slowScan_eq, hnone]; rfl
  case wakes => rw [slowScan_eq, hpress]; rfl
  case lowest =>
    have hincreasing := acceptedAt_increasing true (nextSlowTests levels s)
    rw [hpress] at hincreasing
    exact (List.pairwise_cons.mp hincreasing).1
  case frame => rw [slowScan_eq]; exact ⟨rfl, rfl, rfl, rfl⟩
  case start => rw [exec, execRxByte, receive_asleep _ hsleep hsettle hrx, if_pos rfl]
  case other => rw [exec, execRxByte, receive_asleep _ hsleep hsettle hrx, if_neg hb]

end Sys2Proof.Machine
end

section

/-! PROOFS. The entry to SLEEP when its reply has left (O58). -/

namespace Sys2Proof.Machine

open Sys2Proof

/-! ## The full flush (R139) -/

/-- Nothing differs but the speech, with the counters of the output and the SPI channel, as an entry
that leaves changes them (R129, R149). -/
structure SpeechChanges (s t : State) : Prop where
  frame : t = { s with speech := t.speech, out := t.out, clips := t.clips }
  kept  : Kept s t

theorem SpeechChanges.refl (s : State) : SpeechChanges s s := ⟨rfl, Kept.refl s⟩

theorem SpeechChanges.trans {s t u : State} (h : SpeechChanges s t) (k : SpeechChanges t u) :
    SpeechChanges s u := ⟨by rw [k.frame, h.frame], h.kept.trans k.kept⟩

theorem speechChanges_queue (s : State) (q : List Entry) :
    SpeechChanges s { s with speech := { s.speech with queue := q } } := ⟨rfl, Kept.of_eq rfl⟩

theorem leaveHead_speechChanges (how : Leaving) (w : Work) :
    SpeechChanges w.st (leaveHead how w).st := by
  refine ⟨?_, leaveHead_kept how w⟩
  unfold leaveHead
  split <;> rfl

theorem cutHead_speechChanges (p : EntryClass → Bool) (w : Work) :
    SpeechChanges w.st (cutHead p w).st := by
  unfold cutHead
  split
  · split
    · exact leaveHead_speechChanges _ _
    · exact SpeechChanges.refl _
  · exact SpeechChanges.refl _

theorem fullFlush_speechChanges (w : Work) : SpeechChanges w.st (fullFlush w).st := by
  have hengine : SpeechChanges w.st (engineFlush w).st :=
    (cutHead_speechChanges _ w).trans (speechChanges_queue _ _)
  have hsaid : SpeechChanges (engineFlush w).st (flushSaid (engineFlush w)).st :=
    (cutHead_speechChanges _ _).trans (speechChanges_queue _ _)
  exact hengine.trans hsaid

/-! ## The entry (R162, R164) -/

/-- The part in SLEEP, entered from this state: the flush has left the output, the clip store, and
the REPORT QUEUE with its overrun mark so. -/
def sleepFrom (out : OutputStage) (clips : ClipStore) (report : List Notice) (overrun : Bool)
    (s : State) : State :=
  { s with
    speech := { queue := [], player := .idle }
    out := sleepOutput out
    clips := sleepClips clips
    keys := sleepKeys s.keys
    link := { s.link with frames := [], rx := (receiverAtEntry s.link).1
                          report := report, overrun := overrun }
    power := { s.power with
      power := .sleep, sleepPending := false, settle := (receiverAtEntry s.link).2
      wakeReason := if (receiverAtEntry s.link).2 then .link else s.power.wakeReason
      wakeKey := if (receiverAtEntry s.link).2 then none else s.power.wakeKey } }

/-- The event of the entry: only the speech and what goes with it differs by the flush. -/
theorem dispose_enterSleep (w : Work) : ∃ flushed report overrun, Kept w.st flushed ∧
    dispose (enterSleep w) = sleepFrom flushed.out flushed.clips report overrun w.st := by
  have hflush := fullFlush_speechChanges w
  obtain ⟨report, overrun, hoffers⟩ :=
    offerAll_frame (restingNotices (enterSleep w).raised) (enterSleep w).st.link
  refine ⟨(fullFlush w).st, report, overrun, hflush.kept, ?_⟩
  rw [dispose, hoffers]
  simp only [enterSleep]
  rw [hflush.frame]
  rfl

/-- A transmitter begins no frame in SLEEP (R177). -/
theorem transmit_asleep {s : State} (h : s.power.power = .sleep) : transmit s = s := by
  simp [transmit, h]

/-- The part with its reply sent and the slot empty (R175). -/
def replyGone (s : State) : State := { s with link := { s.link with tx := none, reply := none } }

theorem exec_txFrameDone_sleepPending {s : State} {f : Sending} (htx : s.link.tx = some f)
    (hreply : f.isReply = true) (hpending : s.power.sleepPending = true) :
    exec .txFrameDone s = .next (dispose (enterSleep (replyGone s).begin)) := by
  have hsent : frameSent s = transmit (dispose (enterSleep (replyGone s).begin)) := by
    simp only [frameSent, htx, hreply, replySent, hpending, if_true]
    rfl
  rw [exec, execTxFrameDone, hsent, transmit_asleep rfl]

/-- Bytes held at the entry wake the part at once (R164). -/
theorem receiverAtEntry_held {l : LinkPort} (h : l.frames ≠ [] ∨ ∃ bs, l.rx = .frame bs) :
    (receiverAtEntry l).2 = true := by
  rcases h with hframes | ⟨bs, hbs⟩
  · obtain ⟨f, fs, hf⟩ := List.exists_cons_of_ne_nil hframes
    simp [receiverAtEntry, hf]
  · unfold receiverAtEntry
    split
    case h_4 hnone hother => exact absurd hbs (hother bs)
    all_goals rfl

theorem receiverAtEntry_hunting {l : LinkPort} (hframes : l.frames = []) (hrx : l.rx = .hunt) :
    receiverAtEntry l = (.hunt, false) := by
  simp [receiverAtEntry, hframes, hrx, Receiver.wakeFrame]

/-- A directory read under way is abandoned (R126). -/
theorem sleepClips_reading {c : ClipStore} (h : c.dir = .reading) :
    (sleepClips c).dir = .unread ∧ (sleepClips c).count = 0 := by
  rw [sleepClips, if_pos h]; exact ⟨rfl, rfl⟩

theorem sleepClips_kept {c : ClipStore} (h : c.dir ≠ .reading) :
    sleepClips c = { c with spi := none } := if_neg h

/-- Settles O58: the entry is `sleepFrom`, and the flush before it keeps the load, the guard and the
directory. -/
theorem sleepIsEntered : Obligations.SleepIsEntered := by
  intro s f htx hreply hpending
  obtain ⟨flushed, report, overrun, hkept, hentry⟩ := dispose_enterSleep (replyGone s).begin
  obtain ⟨hload, -, htripped⟩ := hkept.load
  have hclips : flushed.clips = { s.clips with spi := flushed.clips.spi } := hkept.clips
  refine ⟨sleepFrom flushed.out flushed.clips report overrun (replyGone s), ?exec, rfl, rfl, rfl,
    rfl, rfl, rfl, hload, htripped, rfl, ?mark, rfl, rfl, fun i => ?position, fun h => ?abandoned,
    fun h => ?directory, rfl, rfl, rfl, rfl, rfl, rfl, rfl, rfl, rfl, fun h => ?wakes,
    fun hframes hrx => ?sleeps⟩
  case exec => rw [exec_txFrameDone_sleepPending htx hreply hpending, hentry]; rfl
  case mark => simp only [sleepFrom, sleepKeys, replyGone]
  case position => simp [sleepFrom, sleepKeys, replyGone]
  case abandoned => exact sleepClips_reading (by rw [hclips]; exact h)
  case directory =>
    have hsleep : sleepClips flushed.clips = { s.clips with spi := none } := by
      rw [hclips]; exact sleepClips_kept h
    simp only [sleepFrom, hsleep, and_self]
  case wakes =>
    have hheld : (receiverAtEntry (replyGone s).link).2 = true := receiverAtEntry_held h
    simp [sleepFrom, hheld]
  case sleeps =>
    have hhunts : receiverAtEntry (replyGone s).link = (.hunt, false) :=
      receiverAtEntry_hunting hframes hrx
    simp only [sleepFrom, hhunts, true_and, and_true]
    rfl

end Sys2Proof.Machine
end

section

/-! PROOFS. The end of the wake settle (O60): whatever the drill goes on to while the probe of the
wake holds the player changes the lesson alone, and a key that wakes the part out of an attention
pause brings back the word. -/

namespace Sys2Proof.Machine

open Sys2Proof

/-! ## The drill while the player is HELD (R132) -/

/-- Nothing differs but the drill, the ATTENTION TIMER, and what waits in the UTTERANCE QUEUE and
the KEY FIFO, which stays empty where it was. -/
structure DrillMoves (s t : State) : Prop where
  frame : t = { s with drill := t.drill, attn := t.attn
                       speech := { s.speech with queue := t.speech.queue }
                       keys := { s.keys with fifo := t.keys.fifo } }
  fifo  : s.keys.fifo = [] → t.keys.fifo = []

theorem DrillMoves.refl (s : State) : DrillMoves s s := ⟨rfl, id⟩

theorem DrillMoves.trans {s t u : State} (h : DrillMoves s t) (k : DrillMoves t u) :
    DrillMoves s u := ⟨by rw [k.frame, h.frame], fun hs => k.fifo (h.fifo hs)⟩

theorem DrillMoves.player {s t : State} (h : DrillMoves s t) :
    t.speech.player = s.speech.player := by rw [h.frame]

theorem drillMoves_drill (s : State) (d : Drill) : DrillMoves s { s with drill := d } := ⟨rfl, id⟩

theorem place_drillMoves (e : Entry) (w : Work) : DrillMoves w.st (place e w).st := by
  obtain ⟨q, h⟩ := place_frame e w
  rw [h]; exact ⟨rfl, id⟩

theorem settleWord_drillMoves (s : State) : DrillMoves s (settleWord s) := by
  obtain ⟨d, h⟩ := settleWord_frame s
  rw [h]; exact drillMoves_drill s d

/-- A player that plays nothing has nothing cut. -/
theorem cutHead_silent {w : Work} (p : EntryClass → Bool)
    (h : w.st.speech.player.playing = false) : cutHead p w = w := by
  unfold cutHead
  split
  · rw [h]; rfl
  · rfl

theorem engineFlush_drillMoves {w : Work} (h : w.st.speech.player.playing = false) :
    DrillMoves w.st (engineFlush w).st := by
  simp only [engineFlush, flushClasses, cutHead_silent _ h]
  exact ⟨rfl, id⟩

theorem pauseDrill_drillMoves (reason : Reason) {w : Work}
    (h : w.st.speech.player.playing = false) : DrillMoves w.st (pauseDrill reason w).st := by
  refine (engineFlush_drillMoves h).trans ?_
  unfold pauseDrill
  simp only
  split
  · refine DrillMoves.trans ?_ ((settleWord_drillMoves _).trans (drillMoves_drill _ _))
    exact ⟨rfl, fun _ => rfl⟩
  · exact ⟨rfl, fun _ => rfl⟩

theorem present_drillMoves (welcome : Bool) (w : Work) :
    DrillMoves w.st (present welcome w).st := by
  unfold present
  split <;> exact drillMoves_drill _ _

theorem boundary_drillMoves {w : Work} (h : w.st.speech.player.playing = false) :
    DrillMoves w.st (boundary w).st := by
  unfold boundary
  split
  · refine DrillMoves.trans ?_ (place_drillMoves _ _)
    exact ⟨rfl, id⟩
  · split
    · exact (pauseDrill_drillMoves _ h).trans (place_drillMoves _ _)
    · refine DrillMoves.trans ?_ (present_drillMoves _ _)
      exact ⟨rfl, id⟩

/-- A word boundary reached from a state that the drill has come to. -/
theorem toBoundary_drillMoves {s : State} {w : Work} (hw : DrillMoves s w.st)
    (h : s.speech.player.playing = false) : DrillMoves s (toBoundary w).st := by
  refine hw.trans (DrillMoves.trans ?_ (boundary_drillMoves ?_))
  · exact ⟨rfl, id⟩
  · exact (congrArg Player.playing hw.player).trans h

theorem toPresent_drillMoves (welcome : Bool) {w : Work}
    (h : w.st.speech.player.playing = false) : DrillMoves w.st (toPresent welcome w).st := by
  unfold toPresent
  split
  · exact present_drillMoves _ _
  · exact toBoundary_drillMoves (drillMoves_drill w.st _) h

theorem endPhase_drillMoves {w : Work} (h : w.st.speech.player.playing = false) :
    DrillMoves w.st (endPhase w).st := by
  unfold endPhase
  split
  · exact ⟨rfl, id⟩
  · split
    · split
      · exact drillMoves_drill _ _
      · exact toBoundary_drillMoves (settleWord_drillMoves _) h
    · exact toBoundary_drillMoves (DrillMoves.refl _) h
  · exact toBoundary_drillMoves (settleWord_drillMoves _) h
  · exact DrillMoves.refl _

theorem feed_drillMoves (w : Work) : DrillMoves w.st (feed w).st := by
  unfold feed
  split
  · exact DrillMoves.refl _
  · refine DrillMoves.trans ?_ (place_drillMoves _ _)
    exact ⟨rfl, id⟩

/-- With the player HELD and no key event waiting, scripts are placed and phases end, no more. -/
theorem micro_drillMoves {w w' : Work} (hheld : w.st.speech.player = .held)
    (hfifo : w.st.keys.fifo = []) (h : micro w = some w') : DrillMoves w.st w'.st := by
  rcases micro_cases h with ⟨hdue, -⟩ | ⟨hdue, -⟩ | ⟨hdue, -⟩ | ⟨-, rfl⟩ | ⟨hdue, -⟩ | ⟨-, rfl⟩
  · simp [probeDue, hheld] at hdue
  · simp [takeDue, hheld] at hdue
  · simp [playDue, hheld] at hdue
  · exact feed_drillMoves w
  · simp [keyDue, hfifo] at hdue
  · exact endPhase_drillMoves (by rw [hheld]; rfl)

theorem runOn_drillMoves {w : Work} (hheld : w.st.speech.player = .held)
    (hfifo : w.st.keys.fifo = []) (n : Nat) : DrillMoves w.st (runOn n w).st := by
  refine runOn_induct (P := fun v => DrillMoves w.st v.st) (fun v v' hmicro hv => ?_) n
    (DrillMoves.refl w.st)
  exact hv.trans (micro_drillMoves (hv.player.trans hheld) (hv.fifo hfifo) hmicro)

/-- A probe that can start does so first, before anything else follows (R132). -/
theorem runToRest_of_probeDue {w : Work} (h : probeDue w.st = true) :
    runToRest w = runOn 4095 (probeStarts w) := runOn_step (micro_of_probeDue h) 4095

theorem probeStarts_drillMoves {s : State} {w : Work} (h : DrillMoves s w.st) :
    DrillMoves (probeStarts s.begin).st (probeStarts w).st := by
  refine ⟨?_, h.fifo⟩
  simp only [probeStarts]
  rw [h.frame]
  rfl

/-! ## The first entries of a presentation (R69, R70) -/

theorem micro_of_feedDue {w : Work} (hplayer : playerRests w.st = true)
    (h : feedDue w.st = true) : micro w = some (feed w) := by
  simp only [playerRests, Bool.and_eq_true, Bool.not_eq_true'] at hplayer
  obtain ⟨⟨hprobe, htake⟩, hplay⟩ := hplayer
  simp [micro, hprobe, htake, hplay, h]

/-- A script entry that finds a place in the UTTERANCE QUEUE. -/
theorem feed_of_room {w : Work} {i : ScriptItem} {is : List ScriptItem}
    (hscript : w.st.drill.script = i :: is)
    (hroom : w.st.speech.queue.length < Config.utterancePlaces) :
    feed w = { w with st := { w.st with
      drill := { w.st.drill with script := is }
      speech := { w.st.speech with queue := w.st.speech.queue ++ [itemEntry w.st.clips i] } } } := by
  simp [feed, hscript, place, hroom]

/-- These two entries placed, this the script left. -/
def placedTwo (a b : ScriptItem) (more : List ScriptItem) (w : Work) : Work :=
  { w with st := { w.st with
    drill := { w.st.drill with script := more }
    speech := { w.st.speech with
      queue := [itemEntry w.st.clips a, itemEntry w.st.clips b] } } }

/-- A presentation into an empty UTTERANCE QUEUE, the player HELD: two entries are placed, and there
the part rests (R69). -/
theorem runOn_presentation {w : Work} {a b : ScriptItem} {more : List ScriptItem}
    (hheld : w.st.speech.player = .held) (hqueue : w.st.speech.queue = [])
    (hscript : w.st.drill.script = a :: b :: more) (ha : a.cls = .prompt)
    (hphase : w.st.drill.phase = .present) (hfifo : w.st.keys.fifo = []) (n : Nat) :
    runOn (n + 2) w = placedTwo a b more w := by
  have hfirst := feed_of_room hscript (by rw [hqueue]; decide)
  have hsecond : feed (feed w) = placedTwo a b more w := by
    have hleft : (feed w).st.drill.script = b :: more := by rw [hfirst]
    have hlength : (feed w).st.speech.queue.length = 1 := by rw [hfirst, hqueue]; rfl
    rw [feed_of_room hleft (by rw [hlength]; decide), hfirst, hqueue]
    rfl
  have hrest : atRest (placedTwo a b more w).st = true := by
    refine atRest_iff.mpr ⟨playerRests_held hheld, drillRests_iff.mpr ⟨?_, ?_, ?_⟩⟩
    · simp [feedDue, placedTwo, scriptedHeld, itemEntry]
    · simp [keyDue, placedTwo, hfifo]
    · exact speechOver_of_stillSpeaks (by simp [placedTwo, hphase, stillSpeaks, itemEntry, ha])
  have hfeed : micro w = some (feed w) := by
    refine micro_of_feedDue (playerRests_held hheld) ?_
    simp [feedDue, hscript, hqueue, scriptedHeld]
  have hfeedAgain : micro (feed w) = some (feed (feed w)) := by
    refine micro_of_feedDue (playerRests_held (by rw [hfirst]; exact hheld)) ?_
    simp [feedDue, hfirst, hqueue, scriptedHeld, itemEntry]
  rw [runOn_step hfeed, runOn_step hfeedAgain, hsecond, runOn_atRest hrest]

/-- PRESENT entered with this script, the current word as given (R61, R70). -/
def presented (c : Current) (script : List ScriptItem) (w : Work) : Work :=
  enterPhase .present .noReason
    { w with st.drill := { w.st.drill with script := script, current := some c } }

/-- A resume with the current word held presents it again (R82). -/
theorem toPresent_current {w : Work} {c : Current} {r : WordRecord} (welcome : Bool)
    (hc : w.st.drill.current = some c) (hr : w.st.bank.slot c.word = some r) :
    toPresent welcome w = presented
      { c with spelledOut := c.spelledOut || decide (c.tryNo = 1 ∧ r.standing = .struggling) }
      (presentationItems w.st.params c.tryNo welcome r) w := by
  simp only [toPresent, present, currentRecord, hc, hr, presented, presentation_eq, spellsAloud,
    Bool.decide_and]

/-! ## The end of the settle (R168 to R170) -/

/-- The waking key brings the drill out of an attention pause (R170). -/
abbrev keyResumes (s : State) : Prop :=
  s.power.wakeReason = .key ∧ s.drill.mode = .drill ∧ s.drill.phase = .paused ∧
    s.drill.reason = .attention

/-- The part awake: ACTIVE, the first full scan to come, the JACK level taken and a probe
requested, an abandoned directory read begun again (R126, R168, R169). -/
def woken (jack : Jack) (s : State) : State :=
  { s with
    power := { s.power with power := .active, settle := false, slept := true }
    keys := { s.keys with firstScan := true }
    out := { s.out with jack := jack, probe := .requested }
    clips := if s.clips.dir = .unread then readingDirectory else s.clips }

/-- The part awake, with the WAKE notice raised (R169). -/
def wokenWork (jack : Jack) (s : State) : Work :=
  (woken jack s).begin.raise (.wake s.power.wakeReason s.power.wakeKey)

theorem wakeBlocks_eq {s : State} (jack : Jack) (hprobe : s.out.probe = .idle)
    (hreset : s.link.resetPending = none) : wakeBlocks jack (settleEnds s) =
      if keyResumes s then toPresent true (wokenWork jack s) else wokenWork jack s := by
  have hrequest : requestProbe { s.out with jack := jack } =
      { s.out with jack := jack, probe := .requested } :=
    requestProbe_eq (by rw [hprobe]; decide)
  simp only [settleEnds, hreset, wakeBlocks, hrequest]
  rfl

theorem takeWaiting_nothing {s : State} (h : s.link.frames = []) : takeWaiting s = s := by
  simp [takeWaiting, h]

theorem endEvent_frames (w : Work) : (endEvent w).link.frames = w.st.link.frames := by
  obtain ⟨t, q, o, hkept, h⟩ := endEvent_frame w
  rw [h, hkept.link]

/-- The event of the settle's end, as its cascade leaves it. -/
theorem exec_wakeSettleEnd {s : State} {jack : Jack} {w v : Work} (hsleep : s.power.power = .sleep)
    (hsettle : s.power.settle = true) (hw : wakeBlocks jack (settleEnds s) = w)
    (hframes : w.st.link.frames = []) (hrun : runToRest w = v) :
    exec (.wakeSettleEnd jack) s = .next (finish v) := by
  rw [exec, execWakeSettleEnd, if_pos ⟨hsleep, hsettle⟩, hw,
    takeWaiting_nothing ((endEvent_frames w).trans hframes), ← conclude_eq_finish hrun, conclude]

section
variable {s : State} (jack : Jack)

theorem wakeBlocks_drillMoves (hs : Asleep s) (hreset : s.link.resetPending = none) :
    DrillMoves (woken jack s) (wakeBlocks jack (settleEnds s)).st := by
  rw [wakeBlocks_eq jack hs.probe hreset]
  split
  · refine toPresent_drillMoves (w := wokenWork jack s) true ?_
    exact congrArg Player.playing hs.player
  · exact DrillMoves.refl _

/-- Whatever the drill goes on to, the probe runs and the rest of the part is as the wake left
it. -/
theorem wake_drillMoves (hs : Asleep s) (hreset : s.link.resetPending = none)
    (hfifo : s.keys.fifo = []) : DrillMoves (probeStarts (wokenWork jack s)).st
      (runToRest (wakeBlocks jack (settleEnds s))).st := by
  have hmoves := wakeBlocks_drillMoves jack hs hreset
  have hdue : probeDue (wakeBlocks jack (settleEnds s)).st = true := by
    rw [hmoves.frame]
    simp [probeDue, woken, hs.player]
  rw [runToRest_of_probeDue hdue]
  refine (probeStarts_drillMoves hmoves).trans (runOn_drillMoves ?_ ?_ _)
  · rfl
  · exact hmoves.fifo hfifo

theorem runToRest_wakes_quiet (hs : Asleep s) (hscript : s.drill.script = [])
    (hfifo : s.keys.fifo = [])
    (hphase : s.drill.phase = .paused ∨ s.drill.phase = .finished ∨ s.drill.phase = .noPhase) :
    runToRest (wokenWork jack s) = probeStarts (wokenWork jack s) := by
  have hover : speechOver (woken jack s) = false := by
    rcases hphase with h | h | h <;> simp [speechOver, waitsOn, woken, h]
  have hrest : drillRests (woken jack s) = true := drillRests_iff.mpr
    ⟨by simp [feedDue, woken, hscript], by simp [keyDue, woken, hfifo], hover⟩
  exact runToRest_playerTurn (w := wokenWork jack s) hs.player (nextPlayer_requested _ _) hrest

/-- What the end of the settle leaves of every block but the drill's. -/
theorem finish_wakes {v : Work} (h : DrillMoves (probeStarts (wokenWork jack s)).st v.st) :
    (finish v).power = (woken jack s).power ∧ (finish v).keys.firstScan = true ∧
      (finish v).out = startProbe (woken jack s).out ∧ (finish v).speech.player = .held ∧
      (finish v).bank = s.bank ∧ (finish v).judge = s.judge ∧ (finish v).lesson = s.lesson ∧
      (finish v).params = s.params ∧ (finish v).clips = (woken jack s).clips := by
  rw [finish_power, finish_keys, finish_out, finish_speech, finish_bank, finish_judge,
    finish_lesson, finish_params, finish_clips, h.frame]
  exact ⟨rfl, rfl, rfl, rfl, rfl, rfl, rfl, rfl, rfl⟩

/-- A presentation after an attention pause opens with WELCOME_BACK and the word clip (R70). -/
theorem presentationItems_welcome (p : Params) (tryNo : Nat) (r : WordRecord) :
    presentationItems p tryNo true r =
      roleItem .welcomeBack .prompt 0 false :: clipItem r.wordClip .prompt 0 ::
        (presentationItems p tryNo true r).drop 2 := rfl

/-- The word brought back while the probe of the wake holds the player: in PRESENT, the first two
entries of its presentation placed and the others its script (R69, R170). -/
def broughtBack (c : Current) (r : WordRecord) (s : State) : Work :=
  let items := presentationItems s.params c.tryNo true r
  placedTwo (roleItem .welcomeBack .prompt 0 false) (clipItem r.wordClip .prompt 0) (items.drop 2)
    (probeStarts (presented
      { c with spelledOut := c.spelledOut || decide (c.tryNo = 1 ∧ r.standing = .struggling) }
      items (wokenWork jack s)))

theorem runToRest_wakes_word {c : Current} {r : WordRecord} (hs : Asleep s)
    (hreset : s.link.resetPending = none) (hfifo : s.keys.fifo = []) (hresumes : keyResumes s)
    (hc : s.drill.current = some c) (hr : s.bank.slot c.word = some r) :
    runToRest (wakeBlocks jack (settleEnds s)) = broughtBack jack c r s := by
  have hpresents := toPresent_current (w := wokenWork jack s) true hc hr
  rw [wakeBlocks_eq jack hs.probe hreset, if_pos hresumes, hpresents, runToRest_of_probeDue]
  · refine runOn_presentation ?_ ?_ (presentationItems_welcome _ _ _) rfl ?_ ?_ 4093
    · rfl
    · exact hs.queue
    · rfl
    · exact hfifo
  · simp [presented, probeDue, wokenWork, woken, hs.player]

theorem broughtBack_raised (c : Current) (r : WordRecord) (hmode : s.drill.mode = .drill) :
    (broughtBack jack c r s).raised = [.wake s.power.wakeReason s.power.wakeKey,
      .phase .drill .present .noReason (some c.word)] := by
  rw [← hmode]; rfl

end

/-- An event with two notices, the second of them of the phase, offers both in order. -/
theorem finish_two {w : Work} {n m : Notice} (h : w.raised = [n, m]) (hn : n.isPhase = false) :
    (finish w).link.report = (offer (offer w.st.link n) m).report := by
  simp [finish, dispose, h, restingNotices, hn]

/-- Settles O60: what the wake leaves whatever the drill does is `finish_wakes`; the drill rests, or
by `keyResumes` presents its word. -/
theorem settlesEnd : Obligations.SettlesEnd := by
  intro s jack hs hsettle hreset hframes hscript hfifo
  have hmoves := wake_drillMoves jack hs hreset hfifo
  obtain ⟨hpower, hscan, hout, hplayer, hbank, hjudge, hlesson, hparams, hclips⟩ :=
    finish_wakes jack hmoves
  have hblocks := wakeBlocks_eq jack hs.probe hreset
  have hnoFrames : (wakeBlocks jack (settleEnds s)).st.link.frames = [] := by
    rw [(wakeBlocks_drillMoves jack hs hreset).frame]; exact hframes
  refine ⟨_, exec_wakeSettleEnd hs.power hsettle rfl hnoFrames rfl, congrArg (·.power) hpower,
    congrArg (·.settle) hpower, congrArg (·.slept) hpower, congrArg (·.wakeReason) hpower, hscan,
    congrArg (·.jack) hout, congrArg (·.load) hout, congrArg (·.probe) hout, hplayer, hbank, hjudge,
    hlesson, fun hunread => ?reads, fun hread => ?keeps, fun hnot hphase => ?quiet,
    fun c r hkey hmode hpaused hreason hc hr => ?word⟩
  case reads => rw [hclips, woken, if_pos hunread]; rfl
  case keeps => rw [hclips, woken, if_neg hread]
  case quiet =>
    have hrun : runToRest (wakeBlocks jack (settleEnds s)) = probeStarts (wokenWork jack s) := by
      rw [hblocks, if_neg hnot, runToRest_wakes_quiet jack hs hscript hfifo hphase]
    rw [hrun]
    exact ⟨finish_drill _, finish_one rfl⟩
  case word =>
    have hrun := runToRest_wakes_word jack hs hreset hfifo ⟨hkey, hmode, hpaused, hreason⟩ hc hr
    rw [hclips]
    rw [hrun] at hplayer hbank hjudge hlesson hparams ⊢
    refine ⟨{ phase := ?phase, current := ?current, queue := ?queue, attempt := ?attempt,
              speech := ?speech, script := ?script, player := hplayer,
              kept := ⟨hbank, hjudge, hlesson, hparams⟩ },
            finish_two (broughtBack_raised jack c r hmode) rfl⟩
    case speech => rw [finish_speech, hs.queue]; rfl
    all_goals rw [finish_drill]
    case phase => exact ⟨hmode, rfl, rfl⟩
    all_goals rfl

end Sys2Proof.Machine
end

section

/-! PROOFS. The frames of the link (10.1 to 10.4, chapter 11): their bytes (O10, O12), the request
rows (O11), what the receiver discards (O13, O14) and the notices that leave (O15). -/

namespace Sys2Proof.Machine

open Sys2Proof

/-! ## Numbers and sums (R171, R190) -/

theorem byte_toNat {n : Nat} (h : n < 256) : (byte n).toNat = n := by
  rw [byte, BitVec.toNat_ofNat, Nat.mod_eq_of_lt h]

theorem word16_bytes (w : Word16) : word16 (lowByte w) (highByte w) = w :=
  BitVec.extractLsb'_append_extractLsb'

theorem word48_bytes (w : BitVec 48) :
    word48 (w.extractLsb' 0 8) (w.extractLsb' 8 8) (w.extractLsb' 16 8) (w.extractLsb' 24 8)
      (w.extractLsb' 32 8) (w.extractLsb' 40 8) = w := by
  have joins (low high m : Nat) (h : high = low + 8) :=
    BitVec.extractLsb'_append_extractLsb'_eq_extractLsb' (x := w) (len₂ := m) h
  rw [word48, joins 32 40 _ rfl, joins 24 32 _ rfl, joins 16 24 _ rfl, joins 8 16 _ rfl,
    joins 0 8 _ rfl]
  exact BitVec.extractLsb'_eq_self

/-- The check byte brings the sum of what it follows to 0 (R171). -/
theorem byteSum_checked (bs : List Byte) : byteSum (bs ++ [0#8 - byteSum bs]) = 0#8 := by
  have hlast : byteSum (bs ++ [0#8 - byteSum bs]) = byteSum bs + (0#8 - byteSum bs) :=
    List.foldl_append
  rw [hlast, BitVec.add_comm, BitVec.sub_add_cancel]

/-- Settles O12: the sum by the check byte's choice, the lengths notice by notice. -/
theorem framesSumToZero : Obligations.FramesSumToZero := by
  refine ⟨fun f => ⟨rfl, ?length, byteSum_checked _⟩, fun n => ⟨?payload, rfl⟩⟩
  case length => simp [Frame.bytes]; omega
  case payload =>
    cases n
    case key event => cases event <;> rfl
    case line letters => simp [Notice.frame, Notice.payload, noticeLength]; omega
    all_goals rfl

/-! ## Requests read back (R176, R189) -/

theorem clipBytes_length (cs : List Word16) : (clipBytes cs).length = 2 * cs.length := by
  induction cs with
  | nil => rfl
  | cons c cs ih => simp [clipBytes, ih]; omega

theorem parseClips_clipBytes (cs : List Word16) : parseClips (clipBytes cs) = some cs := by
  induction cs with
  | nil => rfl
  | cons c cs ih => simp [clipBytes, parseClips, ih, word16_bytes]

theorem parseWordWrite_writePayload {w : WordWrite} (h : w.spelling.length < 256) :
    parseWordWrite (writePayload w) = some w := by
  simp [writePayload, wordBytes, parseWordWrite, byte_toNat h, word16_bytes]

/-- The payload of a request has the length that 11.5 gives its fields. -/
theorem requestPayload_length (r : Request) : (requestPayload r).length = r.payloadLength := by
  cases r
  case wordPut w => simp [requestPayload, writePayload, wordBytes, Request.payloadLength]; omega
  case wordPutIf w => simp [requestPayload, writePayload, wordBytes, Request.payloadLength]; omega
  case queueLoadList l => simp [requestPayload, Request.payloadLength]; omega
  case say g l => simp [requestPayload, Request.payloadLength, clipBytes_length]; omega
  all_goals rfl

/-- A request's own frame is read as that request, under the length test of its kind. -/
theorem parseRequest_requestFrame (tag : Byte) {r : Request} (h : r.wellFormed = true) :
    parseRequest (requestFrame tag r) = Asked.ofRequest r := by
  have hlength : r.payloadLength ≤ 250 := of_decide_eq_true h
  have hspelling (w : WordWrite) (hw : 10 + w.spelling.length ≤ 250) :
      parseWordWrite (writePayload w) = some w := parseWordWrite_writePayload (by omega)
  cases r
  case wordPut w =>
    exact congrArg (fun x => Asked.ofOption (x.map Request.wordPut)) (hspelling w hlength)
  case wordPutIf w =>
    exact congrArg (fun x => Asked.ofOption (x.map Request.wordPutIf)) (hspelling w hlength)
  case say g l =>
    exact congrArg (fun x => Asked.ofOption (x.map (Request.say g))) (parseClips_clipBytes l)
  case set i v => exact congrArg (fun x => Asked.request (.set i x)) (word16_bytes v)
  case noticeMask m => exact congrArg (fun x => Asked.request (.noticeMask x)) (word16_bytes m)
  case lessonLimit m => exact congrArg (fun x => Asked.request (.lessonLimit x)) (word16_bytes m)
  case keysets a w =>
    exact congr (congrArg (fun x y => Asked.request (.keysets x y)) (word48_bytes a))
      (word48_bytes w)
  all_goals rfl

/-- Settles O10. -/
theorem requestFramesAreReadBack : Obligations.RequestFramesAreReadBack :=
  fun tag _ h => parseRequest_requestFrame tag h

/-! ## A frame taken (R175, R176) -/

/-- A request row on a ready port is its frame taken in the event of its last byte. -/
theorem deliver_eq_takeFrame (tag : Byte) {r : Request} {s : State} (hready : ready s = true)
    (hr : r.wellFormed = true) :
    deliver tag r s = transmit (takeFrame (requestFrame tag r) (heard s)) := by
  have hanswer : answer (requestFrame tag r) (heard s) =
      if requestLengthOk r then act tag r (heard s)
      else refuseLength (requestKind r) (heard s) := by
    rw [answer, parseRequest_requestFrame tag hr, Asked.ofRequest]
    cases requestLengthOk r <;> rfl
  rw [takeFrame, hanswer, deliver, if_pos hready]
  rfl

theorem ready_iff {s : State} : ready s = true ↔
    canTake s = true ∧ s.link.frames = [] ∧ s.link.rx = .hunt := by
  simp [ready, and_assoc]

theorem canTake_iff {s : State} : canTake s = true ↔ s.power.power = .active ∧
    s.link.reply = none ∧ s.power.sleepPending = false ∧ s.link.resetPending = none := by
  simp [canTake, and_assoc]

theorem takeWaiting_cons {s : State} {f : Frame} {fs : List Frame} (htake : canTake s = true)
    (hframes : s.link.frames = f :: fs) :
    takeWaiting s = takeFrame f { s with link.frames := fs } := by
  simp only [takeWaiting, htake, hframes, if_true]

/-! ## A LINK_FAULT notice (R174) -/

/-- What the receiver does next and the offer of a notice do not touch each other. -/
theorem offer_rx (l : LinkPort) (rx : Receiver) (n : Notice) :
    offer { l with rx := rx } n = { offer l n with rx := rx } := by
  unfold offer
  split
  · split <;> rfl
  · rfl

theorem linkFault_eq (cause : LinkCause) (kind : Option Byte) (rx : Receiver) (s : State) :
    linkFault cause kind rx s = faulted cause kind rx s := by
  rw [linkFault, finish, dispose_one rfl]
  exact congrArg (fun l => transmit { s with link := l }) (offer_rx s.link rx _)

/-! ## A byte received while the part listens (R171 to R173)

The part listens in ACTIVE and in the wake settle. -/

section
variable {s : State} {b : Byte} (hlistens : s.power.power = .active ∨ s.power.settle = true)
include hlistens

/-- A part that listens is not in the SLEEP that a start byte ends (R165). -/
theorem not_asleep_of_listens : ¬ (s.power.power = .sleep ∧ s.power.settle = false ∧
    s.link.rx.wakeFrame = false) := by
  rintro ⟨hpower, hsettle, -⟩
  simp [hpower, hsettle] at hlistens

theorem receive_other (hrx : s.link.rx = .hunt) (hb : b ≠ Config.startByte) :
    receive b s = heard s := by
  rw [receive, if_neg (not_asleep_of_listens hlistens)]
  simp [hrx, hb, heard]

theorem receive_start (hrx : s.link.rx = .hunt) :
    receive Config.startByte s = if Config.receiveBytes ≤ s.link.held then
        faulted .overflow none .discardLength (heard s)
      else { s with link := { s.link with silence := 0, rx := .frame [Config.startByte] } } := by
  rw [receive, if_neg (not_asleep_of_listens hlistens), ← linkFault_eq]
  simp only [hrx, if_true]
  rw [← hrx]
  rfl

theorem receive_frame {bs : List Byte} (hrx : s.link.rx = .frame bs) :
    receive b s = if Config.receiveBytes ≤ s.link.held then
        faulted .overflow bs[2]? (afterOverflow bs) (heard s)
      else frameByte bs b (heard s) := by
  rw [receive, if_neg (not_asleep_of_listens hlistens), ← linkFault_eq]
  simp only [hrx]
  rw [← hrx]
  rfl

theorem receive_overflow {bs : List Byte} (hrx : s.link.rx = .frame bs)
    (hfull : Config.receiveBytes ≤ s.link.held) :
    receive b s = faulted .overflow bs[2]? (afterOverflow bs) (heard s) := by
  rw [receive_frame hlistens hrx, if_pos hfull]

theorem receive_room {bs : List Byte} (hrx : s.link.rx = .frame bs)
    (hroom : s.link.held < Config.receiveBytes) : receive b s = frameByte bs b (heard s) := by
  rw [receive_frame hlistens hrx, if_neg (Nat.not_le.mpr hroom)]

theorem receive_discardLength (hrx : s.link.rx = .discardLength) :
    receive b s = { s with link := { s.link with
      silence := 0, rx := if 250 < b.toNat then .hunt else .discard (b.toNat + 3) } } := by
  rw [receive, if_neg (not_asleep_of_listens hlistens)]
  simp only [hrx]
  rfl

theorem receive_discard {m : Nat} (hrx : s.link.rx = .discard m) :
    receive b s = { s with link := { s.link with
      silence := 0, rx := if m ≤ 1 then .hunt else .discard (m - 1) } } := by
  rw [receive, if_neg (not_asleep_of_listens hlistens)]
  simp only [hrx]
  rfl

theorem receive_discardSilence (hrx : s.link.rx = .discardSilence) :
    receive b s = heard s := by
  rw [receive, if_neg (not_asleep_of_listens hlistens)]
  simp only [hrx]
  rw [← hrx]
  rfl

end

/-! ## A byte of the frame in progress (R171) -/

theorem frameByte_longLength (a : Byte) {n : Byte} (s : State) (h : 250 < n.toNat) :
    frameByte [a] n s = faulted .check none .hunt s := by
  rw [← linkFault_eq]
  exact if_pos h

theorem frameByte_length (a : Byte) {n : Byte} (s : State) (h : n.toNat ≤ 250) :
    frameByte [a] n s = { s with link.rx := .frame [a, n] } :=
  if_neg (Nat.not_lt.mpr h)

/-- A byte before the check byte stays in the receive buffer. -/
theorem frameByte_unfinished (a n kind b : Byte) {got : List Byte} (s : State)
    (h : got.length ≤ n.toNat) : frameByte (a :: n :: kind :: got) b s =
      { s with link.rx := .frame (a :: n :: kind :: (got ++ [b])) } := by
  cases got with
  | nil => simp [frameByte]
  | cons tag rest => exact if_pos (by simpa [Nat.lt_succ_iff] using h)

section
variable {n kind tag b : Byte} {payload : List Byte} (s : State) (h : payload.length = n.toNat)
include h

/-- The check byte ends the frame: a sum of 0 makes it a checked frame. -/
theorem frameByte_last (a : Byte) : frameByte (a :: n :: kind :: tag :: payload) b s =
    if byteSum (n :: kind :: tag :: (payload ++ [b])) = 0#8 then
      transmit (takeWaiting { s with link := { s.link with
        rx := .hunt
        frames := s.link.frames ++ [{ kind := kind, tag := tag, payload := payload }] } })
    else faulted .check (some kind) .hunt s := by
  have hlast : ¬ (payload ++ [b]).length < n.toNat + 1 := by simp [h]
  rw [← linkFault_eq]
  simp only [frameByte, List.cons_append, if_neg hlast, List.dropLast_concat]

end

/-! ## A whole frame, byte by byte (R171, R173, R175) -/

/-- A frame in progress that holds these bytes, the last of them just come. -/
def framing (bs : List Byte) (s : State) : State :=
  { s with link := { s.link with silence := 0, rx := .frame bs } }

section
variable {s : State} (hactive : s.power.power = .active) (hframes : s.link.frames = [])
include hactive hframes

/-- Where no frame waits, a frame of up to 256 bytes finds room. -/
theorem receive_framing {bs : List Byte} (b : Byte) (h : bs.length < 256) :
    receive b (framing bs s) = frameByte bs b (framing bs s) := by
  have hheld : ¬ Config.receiveBytes ≤ (framing bs s).link.held := by
    simpa [framing, LinkPort.held, hframes] using h
  rw [receive_frame (s := framing bs s) (.inl hactive) rfl, if_neg hheld]
  rfl

/-- The bytes from the tag byte to the last of the payload are held in order. -/
theorem receiveAll_framing (a kind : Byte) {n : Byte} (hn : n.toNat ≤ 250) (got more : List Byte)
    (h : got.length + more.length ≤ n.toNat + 1) :
    receiveAll more (framing (a :: n :: kind :: got) s) =
      framing (a :: n :: kind :: (got ++ more)) s := by
  induction more generalizing got with
  | nil => rw [List.append_nil, receiveAll_nil]
  | cons b more ih =>
    rw [List.length_cons] at h
    have hgot : got.length ≤ n.toNat := by omega
    have hroom : (a :: n :: kind :: got).length < 256 := by simp only [List.length_cons]; omega
    have hb : receive b (framing (a :: n :: kind :: got) s) =
        framing (a :: n :: kind :: (got ++ [b])) s := by
      rw [receive_framing hactive hframes b hroom, frameByte_unfinished _ _ _ _ _ hgot]
      rfl
    rw [receiveAll_cons, hb, ih, List.append_assoc]
    · rfl
    · simp only [List.length_append, List.length_singleton]; omega

end

/-- What the check byte of a frame sums (R171). -/
def Frame.body (f : Frame) : List Byte := byte f.payload.length :: f.kind :: f.tag :: f.payload

theorem Frame.bytes_eq (f : Frame) :
    f.bytes = Config.startByte :: (f.body ++ [0#8 - byteSum f.body]) := rfl

section
variable {f : Frame} {s : State} (hlength : f.payload.length ≤ 250) (hready : ready s = true)
include hlength hready

/-- The check byte of a whole frame on a ready port: the frame is taken at once. -/
theorem receive_checkByte :
    receive (0#8 - byteSum f.body) (framing (Config.startByte :: f.body) s) =
      transmit (takeFrame f (heard s)) := by
  obtain ⟨htake, hframes, hrx⟩ := ready_iff.mp hready
  obtain ⟨hactive, -⟩ := canTake_iff.mp htake
  have hn : (byte f.payload.length).toNat = f.payload.length := byte_toNat (by omega)
  have hroom : (Config.startByte :: f.body).length < 256 := by
    simp only [Frame.body, List.length_cons]; omega
  have hsum : byteSum (f.body ++ [0#8 - byteSum f.body]) = 0#8 := byteSum_checked f.body
  rw [receive_framing hactive hframes _ hroom]
  refine ((frameByte_last _ hn.symm _).trans (if_pos hsum)).trans ?_
  rw [takeWaiting_cons (f := f) (fs := []) ?take ?frames]
  case take => exact htake
  case frames => exact congrArg (· ++ [f]) hframes
  refine congrArg (fun t => transmit (takeFrame f t)) ?_
  show { s with link := { s.link with silence := 0, rx := .hunt, frames := [] } } = heard s
  rw [← hrx, ← hframes]
  rfl

/-- The bytes before the check byte are held, in order. -/
theorem receiveAll_body :
    receiveAll (Config.startByte :: f.body) s = framing (Config.startByte :: f.body) s := by
  obtain ⟨htake, hframes, hrx⟩ := ready_iff.mp hready
  obtain ⟨hactive, -⟩ := canTake_iff.mp htake
  have hn : (byte f.payload.length).toNat = f.payload.length := byte_toNat (by omega)
  have hstart : receive Config.startByte s = framing [Config.startByte] s := by
    have hheld : ¬ Config.receiveBytes ≤ s.link.held := by simp [LinkPort.held, hframes, hrx]
    rw [receive_start (.inl hactive) hrx, if_neg hheld]
    rfl
  have hlen : receive (byte f.payload.length) (framing [Config.startByte] s) =
      framing [Config.startByte, byte f.payload.length] s := by
    rw [receive_framing hactive hframes _ (by decide), frameByte_length _ _ (by omega)]
    rfl
  have hkind : receive f.kind (framing [Config.startByte, byte f.payload.length] s) =
      framing [Config.startByte, byte f.payload.length, f.kind] s :=
    receive_framing hactive hframes _ (by simp only [List.length_cons, List.length_nil]; omega)
  rw [Frame.body, receiveAll_cons, hstart, receiveAll_cons, hlen, receiveAll_cons, hkind]
  refine receiveAll_framing hactive hframes _ _ (Nat.le_trans (Nat.le_of_eq hn) hlength) []
    (f.tag :: f.payload) ?_
  simp only [List.length_cons, List.length_nil]
  omega

/-- On a ready port a whole frame is taken and answered in the event of its last byte. -/
theorem receiveAll_frame : receiveAll f.bytes s = transmit (takeFrame f (heard s)) := by
  rw [Frame.bytes_eq, ← List.cons_append, receiveAll_append, receiveAll_body hlength hready]
  exact receive_checkByte hlength hready

end

/-- Settles O11: on a port that is not ready a request row is its bytes by definition, on one that
is ready by `receiveAll_frame`. -/
theorem requestRowsAreTheirBytes : Obligations.RequestRowsAreTheirBytes := by
  intro c tag r s hc hr
  rw [exec_of_request? hc]
  cases hready : ready s with
  | false => rw [deliver_notReady tag r hready]
  | true =>
    have hlength : (requestFrame tag r).payload.length ≤ 250 :=
      (requestPayload_length r).symm ▸ of_decide_eq_true hr
    rw [deliver_eq_takeFrame tag hready hr, receiveAll_frame hlength hready]

/-! ## What the receiver discards (R171 to R174, R167) -/

/-- Settles O13. -/
theorem huntingAndDiscards : Obligations.HuntingAndDiscards := by
  refine ⟨fun s b hlistens hrx => ⟨fun hb => ?other, fun hb hroom => ?start⟩, fun s hrx => ?silence,
    fun s hrx => ?wake⟩
  case other => exact congrArg _ (receive_other hlistens hrx hb)
  case start =>
    subst hb
    exact congrArg _ ((receive_start hlistens hrx).trans (if_neg (Nat.not_le.mpr hroom)))
  case silence => exact congrArg _ (if_pos hrx)
  case wake =>
    have hwakes : s.link.rx.wakeFrame = true := by
      rcases hrx with hrx | ⟨n, hrx⟩ <;> rw [hrx] <;> rfl
    exact congrArg _ (if_pos hwakes)

/-- After an overflow the rest of a frame whose length had come is counted (R173). -/
theorem afterOverflow_counted {a n : Byte} {more : List Byte} (h : more.length + 3 < 5 + n.toNat) :
    afterOverflow (a :: n :: more) = .discard (5 + n.toNat - (more.length + 3)) := by
  have hleft : 5 + n.toNat - (3 + more.length) ≠ 0 := by omega
  rw [afterOverflow, if_neg hleft, Nat.add_comm more.length]

/-- An overflow that lost the check byte leaves nothing to discard (R173). -/
theorem afterOverflow_hunts {a n : Byte} {more : List Byte} (h : more.length + 3 = 5 + n.toNat) :
    afterOverflow (a :: n :: more) = .hunt := by
  have hleft : 5 + n.toNat - (3 + more.length) = 0 := by omega
  rw [afterOverflow, if_pos hleft]

/-- Settles O14: each byte by the receiver's state (`receive_frame` and its kin), an overflow by
the bytes of the frame that had come. -/
theorem brokenFramesAreReported : Obligations.BrokenFramesAreReported := by
  refine ⟨fun s a n b hlistens hfull => ⟨fun hrx => ?lostStart, fun hrx => ?lostLength,
      fun hrx => ?lostKind, fun kind more hrx hlast => ?lostCheck⟩,
    fun s b hlistens => ⟨fun hrx => ?afterStart, fun m hrx => ?counts, fun hrx => ?silence⟩,
    fun s a n hlistens hrx hroom hlong => ?longLength,
    fun s a n kind tag b payload hlistens hrx hlength hroom hsum => ?badSum,
    fun s a n kind more b hlistens hrx hfull hmore => ?lostByte, fun s bs hlistens hrx => ?timeout⟩
  case lostStart => exact congrArg _ ((receive_start hlistens hrx).trans (if_pos hfull))
  case lostLength => exact congrArg _ (receive_overflow hlistens hrx hfull)
  case lostKind =>
    have hleft : 5 + n.toNat - (([] : List Byte).length + 3) = n.toNat + 2 := by simp; omega
    rw [← hleft, ← afterOverflow_counted (by simp; omega)]
    exact congrArg _ (receive_overflow hlistens hrx hfull)
  case lostCheck =>
    rw [← afterOverflow_hunts (a := a) (more := kind :: more) hlast]
    exact congrArg _ (receive_overflow hlistens hrx hfull)
  case afterStart => exact congrArg _ (receive_discardLength hlistens hrx)
  case counts => exact congrArg _ (receive_discard hlistens hrx)
  case silence => exact congrArg _ (receive_discardSilence hlistens hrx)
  case longLength =>
    exact congrArg _ ((receive_room hlistens hrx hroom).trans (frameByte_longLength a _ hlong))
  case badSum =>
    exact congrArg _ ((receive_room hlistens hrx hroom).trans
      ((frameByte_last _ hlength a).trans (if_neg hsum)))
  case lostByte =>
    have hrest : afterOverflow (a :: n :: kind :: more) =
        .discard (5 + n.toNat - (more.length + 4)) := afterOverflow_counted hmore
    rw [← hrest]
    exact congrArg _ (receive_overflow hlistens hrx hfull)
  case timeout =>
    have hreceives : receives s.power = true := by simpa [receives] using hlistens
    simp only [exec, execRxTimeout, hrx, hreceives, if_true, linkFault_eq]
    rfl

/-! ## Frames sent (R175, R177, R179) -/

theorem exec_txFrameDone_notice {s : State} {f : Sending} (htx : s.link.tx = some f)
    (hnotice : f.isReply = false) : exec .txFrameDone s =
      .next (transmit { s with link := noticeSent { s.link with tx := none } }) := by
  simp [exec, execTxFrameDone, frameSent, htx, hnotice]

/-- The REPORT QUEUE loses its oldest notice; an OVERRUN takes the tail for one that was dropped. -/
theorem noticeSent_eq (l : LinkPort) : noticeSent l = { l with
    overrun := false, report := l.report.drop 1 ++ if l.overrun then [.overrun] else [] } := by
  cases h : l.overrun <;> simp [noticeSent, h]

/-- Settles O15. -/
theorem noticesLeaveOldestFirst : Obligations.NoticesLeaveOldestFirst := by
  intro s f htx hnotice
  refine ⟨?_, fun l => ?_⟩
  · rw [exec_txFrameDone_notice htx hnotice, noticeSent_eq]
  · rw [chooseFrame]
    cases l.reply <;> cases l.report <;> rfl

end Sys2Proof.Machine
end

section

/-! PROOFS. The requests of the LINK PORT itself (10.6 to 10.8): RESET and SLEEP pending (O20),
HELLO, GET and NOTICE_MASK (O21), STATUS and AUDIO_GET (O22), and SET (O23). -/

namespace Sys2Proof.Machine

open Sys2Proof

/-! ## RESET and SLEEP (R162, R187, R188) -/

theorem sleepAllowed_iff {d : Drill} : sleepAllowed d = true ↔
    d.mode = .setup ∨ d.mode = .drill ∧ (d.phase = .paused ∨ d.phase = .finished) := by
  simp [sleepAllowed]

/-- Settles O20. -/
theorem resetAndSleepWaitOnTheirReplies : Obligations.ResetAndSleepWaitOnTheirReplies := by
  intro s tag hready
  refine ⟨exec_request rfl hready rfl rfl, exec_request rfl hready rfl rfl, fun h => ?allowed,
    fun h => ?refused, fun t h => ?waits⟩
  case allowed => exact exec_request rfl hready rfl (if_pos (sleepAllowed_iff.mpr h))
  case refused =>
    have hnot : ¬ sleepAllowed s.drill = true := by
      rw [sleepAllowed_iff]
      rcases h with hmode | ⟨hmode, hpaused, hfinished⟩ <;> simp_all
    exact exec_request rfl hready rfl (if_neg hnot)
  case waits =>
    rcases h with hreset | hsleep
    · simp [canTake, Option.isNone_eq_false_iff.mpr hreset]
    · simp [canTake, hsleep]

/-! ## HELLO, GET and NOTICE_MASK (R180, R182, R186) -/

theorem actGet_unknown {id : Byte} (s : State) (h : Param.ofId id = none) :
    actGet id s = refuse .badArg s := by
  rw [actGet, h]

theorem actGet_param {id : Byte} {x : Param} (s : State) (h : Param.ofId id = some x) :
    actGet id s = (s, Result.ok.code :: id :: le16 (x.read s.params)) := by
  rw [actGet, h]

/-- STARTED and OVERRUN, bits 0 and 13, are marked whatever was given (R180). -/
theorem maskHeld_getLsbD (set : Word16) {n : Nat} (h : n < 14) :
    (maskHeld set).getLsbD n = (set.getLsbD n || n == 0 || n == 13) := by
  have hforced : ∀ m < 14, (0x2001#14).getLsbD m = (m == 0 || m == 13) := by decide
  rw [maskHeld, BitVec.getLsbD_or, hforced n h, BitVec.getLsbD_setWidth, Bool.or_assoc]
  simp [h]

/-- Settles O21. -/
theorem helloGetAndNoticeMask : Obligations.HelloGetAndNoticeMask := by
  refine ⟨fun s tag hready => ⟨?hello, fun id hid => ?unknown, fun id x hid => ?held⟩,
    fun s tag set hready => ⟨fun hset => ?mask, fun hset => ?beyond⟩⟩
  case hello =>
    exact exec_request rfl hready rfl rfl
  case unknown => exact exec_request rfl hready rfl (actGet_unknown (heard s) hid)
  case held => exact exec_request rfl hready rfl (actGet_param (heard s) hid)
  case mask =>
    exact ⟨maskHeld set, fun n => maskHeld_getLsbD set,
      exec_request rfl hready rfl (if_neg (Nat.not_le.mpr hset))⟩
  case beyond => exact exec_request rfl hready rfl (if_pos hset)

/-! ## STATUS and AUDIO_GET (R151, R183) -/

theorem statusMarks_eq (s : State) : statusMarks s =
    byte (s.lesson.timeUp.toNat + 2 * s.power.slept.toNat + 4 * s.keys.overrun.toNat +
      8 * s.link.overrun.toNat) := by
  have hbit (b : Bool) (n : Nat) : (if b then n else 0) = n * b.toNat := by cases b <;> simp
  simp only [statusMarks, hbit, Nat.one_mul]

theorem probeByte_eq (o : OutputStage) :
    probeByte o = byte (o.probe.code + 128 * o.oneMore.toNat) := by
  rw [probeByte]
  cases o.oneMore <;> rfl

theorem capInForce_getD (p : Params) (l : Load) : (capInForce p l).getD 0 =
    match l with
    | .openLoad => 0
    | .speaker => p.capSpeaker
    | .phones => p.capPhones := by
  cases l <;> rfl

/-- Settles O22. -/
theorem statusAndAudioGetReport : Obligations.StatusAndAudioGetReport := by
  refine ⟨fun s tag flags hready => exec_request rfl hready rfl (Prod.ext ?marks ?record),
    fun s tag flags hready => exec_request rfl hready rfl (Prod.ext ?counts ?stage)⟩
  case marks => rfl
  case record =>
    show Result.ok.code :: statusRecord (heard s) = _
    rw [statusRecord, statusMarks_eq]
    rfl
  case counts => rfl
  case stage =>
    show (actAudioGet flags (heard s)).2 = _
    rw [actAudioGet, probeByte_eq, capInForce_getD]
    rfl

/-! ## One parameter written (R184, R185) -/

theorem Param.read_write (p : Params) (v : Nat) (x y : Param) :
    y.read (x.write p v) = if y = x then v else y.read p := by
  cases x <;> cases y <;> rfl

theorem Param.range_le (x : Param) : x.range.1 ≤ x.range.2 := by
  cases x <;> decide

theorem Param.clamp_eq (x : Param) (v : Nat) : x.clamp v =
    if v < x.range.1 then x.range.1 else if x.range.2 < v then x.range.2 else v := by
  have hrange := x.range_le
  unfold Param.clamp
  split
  · omega
  · split <;> omega

theorem Param.clamp_eq_self {x : Param} {v : Nat} :
    x.clamp v = v ↔ x.range.1 ≤ v ∧ v ≤ x.range.2 := by
  have hrange := x.range_le
  unfold Param.clamp
  omega

theorem actSet_unknown {id : Byte} (v : Word16) (s : State) (h : Param.ofId id = none) :
    actSet id v s = refuse .badArg s := by
  rw [actSet, h]

theorem actSet_setup {id : Byte} {x : Param} {s : State} (v : Word16) (hid : Param.ofId id = some x)
    (hlive : x.live = false) (hmode : s.drill.mode ≠ .setup) : actSet id v s = refuse .mode s := by
  simp only [actSet, hid, if_pos (And.intro hlive hmode)]

theorem actSet_taken {id : Byte} {x : Param} {s : State} (v : Word16) (hid : Param.ofId id = some x)
    (h : x.live = true ∨ s.drill.mode = .setup) : actSet id v s =
      (writeParam x (x.clamp v.toNat) s,
       (if x.range.1 ≤ v.toNat ∧ v.toNat ≤ x.range.2 then 0x00#8 else 0x01#8) :: id ::
         le16 (x.clamp v.toNat)) := by
  have hnot : ¬ (x.live = false ∧ s.drill.mode ≠ .setup) := by
    rintro ⟨hlive, hmode⟩
    simp [hlive, hmode] at h
  simp only [actSet, hid, if_neg hnot, Param.clamp_eq_self]
  rfl

/-- The LESSON TIMER after a write of its limit (R86, R87). -/
def limitWritten (minutes : Nat) (l : LessonTimer) : LessonTimer :=
  { l with timeUp := decide (0 < minutes ∧ minutes * 60 ≤ l.seconds) }

theorem writeLimit_eq (minutes : Nat) (s : State) : writeLimit minutes s =
    { s with params := { s.params with lessonLimit := minutes }
             lesson := limitWritten minutes s.lesson } := by
  simp only [writeLimit, limitReached, limitWritten, Bool.decide_and]

/-- A write that changes no WARN_LIMIT changes the parameter, and r or the time-up pending mark
where it is VOLUME or LESSON_LIMIT (R87, R143). -/
theorem writeParam_plain {x : Param} {v : Nat} {s : State}
    (h : ¬ (x = .warnLimit ∧ v ≠ s.params.warnLimit)) : writeParam x v s =
      { s with
        params := x.write s.params v
        out := if x = .volume then { s.out with trimDown := 0 } else s.out
        lesson := if x = .lessonLimit then limitWritten v s.lesson else s.lesson } := by
  cases x
  case warnLimit => exact if_pos (Decidable.byContradiction fun hv => h ⟨rfl, hv⟩)
  case lessonLimit => exact writeLimit_eq v s
  all_goals rfl

/-! ## A changed WARN_LIMIT (R7, R8, R14) -/

/-- The STANDING notice of word i under a new WARN_LIMIT, where its standing changes. -/
def standingChange (limit : Nat) (b : WordBank) (i : Nat) : Option Notice :=
  match b.slot i with
  | some r =>
    if deriveStanding limit r = r.standing then none
    else some (.standing i r.standing (deriveStanding limit r) r.strain)
  | none => none

theorem standingChange_of_slot_eq {limit : Nat} {b c : WordBank} {i : Nat}
    (h : b.slot i = c.slot i) : standingChange limit b i = standingChange limit c i := by
  rw [standingChange, standingChange, h]

theorem standingChange_isNone {limit : Nat} {b : WordBank} {i : Nat} {r : WordRecord}
    (h : b.slot i = some r) :
    (standingChange limit b i).isNone = decide (deriveStanding limit r = r.standing) := by
  by_cases hsame : deriveStanding limit r = r.standing <;> simp [standingChange, h, hsame]

theorem derived_eq_self {limit : Nat} {r : WordRecord} (h : deriveStanding limit r = r.standing) :
    derived limit r = r := by
  rw [derived, h]

/-- Deriving one standing afresh: nothing where it stays, one change to the record where not. -/
theorem rederive_cases (w : Work) (i : Nat) :
    (standingChange w.st.params.warnLimit w.st.bank i = none ∧
      (w.st.bank.slot i).map (derived w.st.params.warnLimit) = w.st.bank.slot i ∧
      rederive w i = w) ∨
    ∃ r n, w.st.bank.slot i = some r ∧
      standingChange w.st.params.warnLimit w.st.bank i = some n ∧
      rederive w i = changeRecord i (derived w.st.params.warnLimit r) w ∧
      (rederive w i).raised = w.raised ++ [n] := by
  cases hslot : w.st.bank.slot i with
  | none => exact .inl ⟨by rw [standingChange, hslot], rfl, by rw [rederive, hslot]⟩
  | some r =>
    by_cases hsame : deriveStanding w.st.params.warnLimit r = r.standing
    · refine .inl ⟨by simp only [standingChange, hslot, if_pos hsame], ?_, ?_⟩
      · rw [Option.map_some, derived_eq_self hsame]
      · simp only [rederive, hslot]
        exact if_pos hsame
    · have hchange : rederive w i = changeRecord i (derived w.st.params.warnLimit r) w := by
        simp only [rederive, hslot]
        exact if_neg hsame
      refine .inr ⟨r, _, rfl, by simp only [standingChange, hslot, if_neg hsame]; rfl, hchange, ?_⟩
      rw [hchange, changeRecord_eq hslot]
      exact congrArg (w.raised ++ ·) (if_neg hsame)

theorem rederive_frame (w : Work) (i : Nat) :
    (rederive w i).st = { w.st with bank := (rederive w i).st.bank } := by
  rcases rederive_cases w i with ⟨-, -, hsame⟩ | ⟨r, n, -, -, hchange, -⟩
  · rw [hsame]
  · obtain ⟨b, hb⟩ := changeRecord_frame i (derived w.st.params.warnLimit r) w
    rw [hchange, hb]

theorem rederive_raised (w : Work) (i : Nat) : (rederive w i).raised =
    w.raised ++ (standingChange w.st.params.warnLimit w.st.bank i).toList := by
  rcases rederive_cases w i with ⟨hnone, -, hsame⟩ | ⟨r, n, -, hsome, -, hraised⟩
  · rw [hsame, hnone, Option.toList_none, List.append_nil]
  · rw [hraised, hsome, Option.toList_some]

theorem rederive_slot (w : Work) (i j : Nat) : (rederive w i).st.bank.slot j =
    if j = i then (w.st.bank.slot i).map (derived w.st.params.warnLimit)
    else w.st.bank.slot j := by
  rcases rederive_cases w i with ⟨-, hmap, hsame⟩ | ⟨r, n, hr, -, hchange, -⟩
  · rw [hsame, hmap]
    split
    · next h => rw [h]
    · rfl
  · rw [hchange, hr, Option.map_some]
    split
    · next h => rw [h, changeRecord_slot_same hr]
    · next h => rw [changeRecord_slot_ne _ _ h]

/-- A reservation that every index keeps stays. -/
theorem filter_always (held : Option Nat) : held.filter (fun _ => true) = held := by
  cases held <;> rfl

theorem rederive_reservation (w : Work) (i : Nat) : (rederive w i).st.bank.reservation =
    w.st.bank.reservation.filter fun j =>
      decide (j ≠ i) || (standingChange w.st.params.warnLimit w.st.bank i).isNone := by
  rcases rederive_cases w i with ⟨hnone, -, hsame⟩ | ⟨r, n, hr, hsome, hchange, -⟩
  · simp [hsame, hnone, filter_always]
  · rw [hchange, changeRecord_eq hr, changed_reservation, hsome]
    cases w.st.bank.reservation with
    | none => rfl
    | some j => by_cases hj : j = i <;> simp [hj, Option.filter_some]

/-- The standings of the first n words derived afresh under this WARN_LIMIT, in index order. -/
structure Rederives (limit n : Nat) (w t : Work) : Prop where
  frame       : t.st = { w.st with bank := t.st.bank }
  slot        : ∀ i, t.st.bank.slot i =
                  if i < n then (w.st.bank.slot i).map (derived limit) else w.st.bank.slot i
  reservation : t.st.bank.reservation = w.st.bank.reservation.filter fun i =>
                  decide (n ≤ i) || (standingChange limit w.st.bank i).isNone
  raised      : t.raised = w.raised ++ (List.range n).filterMap (standingChange limit w.st.bank)

theorem Rederives.zero (limit : Nat) (w : Work) : Rederives limit 0 w w where
  frame := rfl
  slot i := rfl
  reservation := by simp [filter_always]
  raised := by simp

theorem Rederives.step {limit n : Nat} {w t : Work} (h : Rederives limit n w t)
    (hlimit : w.st.params.warnLimit = limit) : Rederives limit (n + 1) w (rederive t n) := by
  have hparams : t.st.params.warnLimit = limit := by rw [h.frame, ← hlimit]
  have hslot : t.st.bank.slot n = w.st.bank.slot n := by rw [h.slot, if_neg (Nat.lt_irrefl n)]
  have hchange := standingChange_of_slot_eq (limit := limit) hslot
  refine ⟨?frame, fun i => ?slot, ?reservation, ?raised⟩
  case frame => rw [rederive_frame, h.frame]
  case slot =>
    rw [rederive_slot, hparams, hslot, h.slot]
    by_cases hi : i = n
    · rw [if_pos hi, if_pos (by omega), hi]
    · have hbelow : i < n + 1 ↔ i < n := by omega
      simp only [if_neg hi, hbelow]
  case reservation =>
    rw [rederive_reservation, hparams, hchange, h.reservation, Option.filter_filter]
    refine congrArg (Option.filter · _) (funext fun i => ?_)
    by_cases hi : i = n
    · subst hi
      have hbeyond : decide (i + 1 ≤ i) = false := decide_eq_false (by omega)
      rw [hbeyond, decide_eq_true (Nat.le_refl i), decide_eq_false (fun h => h rfl)]
      rfl
    · have hle : decide (n ≤ i) = decide (n + 1 ≤ i) := decide_eq_decide.mpr (by omega)
      rw [hle, decide_eq_true hi, Bool.true_or, Bool.and_true]
  case raised =>
    rw [rederive_raised, hparams, hchange, h.raised, List.range_succ, List.filterMap_append,
      List.append_assoc]
    cases h : standingChange limit w.st.bank n <;> simp [h]

theorem rederives_range {limit : Nat} {w : Work} (hlimit : w.st.params.warnLimit = limit)
    (n : Nat) : Rederives limit n w ((List.range n).foldl rederive w) := by
  induction n with
  | zero => exact Rederives.zero limit w
  | succ n ih =>
    rw [List.range_succ, List.foldl_append]
    exact ih.step hlimit

/-! ## The notices of a changed WARN_LIMIT -/

theorem restingNotices_of_no_phase {ns : List Notice} (h : ∀ n ∈ ns, n.isPhase = false) :
    restingNotices ns = ns := by
  induction ns with
  | nil => rfl
  | cons n ns ih =>
    rw [restingNotices, h n List.mem_cons_self, ih fun m hm => h m (List.mem_cons_of_mem n hm)]
    rfl

theorem standingChange_isPhase {limit i : Nat} {b : WordBank} {n : Notice}
    (h : standingChange limit b i = some n) : n.isPhase = false := by
  unfold standingChange at h
  split at h
  · split at h
    · cases h
    · cases h; rfl
  · cases h

/-- The STANDING notices of a new WARN_LIMIT, in index order (R7, R8). -/
def standingChanges (limit : Nat) (b : WordBank) : List Notice :=
  (List.range 96).filterMap (standingChange limit b)

/-- A WARN_LIMIT just taken, no standing derived under it yet. -/
def limitTaken (limit : Nat) (s : State) : State :=
  { s with params := { s.params with warnLimit := limit } }

/-- The whole effect of a changed WARN_LIMIT. -/
theorem writeParam_warnLimit {limit : Nat} {s : State} (h : limit ≠ s.params.warnLimit) :
    ∃ b, writeParam .warnLimit limit s = { s with
        params := { s.params with warnLimit := limit }
        bank := b
        link := (standingChanges limit s.bank).foldl offer s.link } ∧
      (∀ i, b.slot i = (s.bank.slot i).map (derived limit)) ∧
      b.reservation =
        s.bank.reservation.filter fun i => (standingChange limit s.bank i).isNone := by
  have hall := rederives_range (w := (limitTaken limit s).begin) (limit := limit) rfl 96
  have hwrite : writeParam .warnLimit limit s =
      dispose ((List.range 96).foldl rederive (limitTaken limit s).begin) := if_neg h
  have hraised : ((List.range 96).foldl rederive (limitTaken limit s).begin).raised =
      standingChanges limit s.bank := hall.raised
  have hsilent : ∀ n ∈ standingChanges limit s.bank, n.isPhase = false := fun n hn => by
    obtain ⟨i, -, hi⟩ := List.mem_filterMap.mp hn
    exact standingChange_isPhase hi
  have hbeyond {i : Nat} (hi : ¬ i < 96) : s.bank.slot i = none := dif_neg hi
  refine ⟨((List.range 96).foldl rederive (limitTaken limit s).begin).st.bank, ?_, fun i => ?_, ?_⟩
  · rw [hwrite, dispose, hraised, restingNotices_of_no_phase hsilent, hall.frame]
    rfl
  · refine (hall.slot i).trans ?_
    split
    · rfl
    · next hi => exact (hbeyond hi).trans (congrArg (Option.map _) (hbeyond hi)).symm
  · refine hall.reservation.trans (congrArg (Option.filter · _) (funext fun i => ?_))
    show (decide (96 ≤ i) || (standingChange limit s.bank i).isNone) = _
    by_cases hi : i < 96
    · rw [decide_eq_false (Nat.not_le.mpr hi), Bool.false_or]
    · have hnone : standingChange limit s.bank i = none := by rw [standingChange, hbeyond hi]
      rw [hnone, Option.isNone_none, Bool.or_true]

/-! ## SET (R185) -/

/-- Settles O23: every write but that of a changed WARN_LIMIT is `writeParam_plain`, that one
`writeParam_warnLimit`. -/
theorem setClampsAndWrites : Obligations.SetClampsAndWrites := by
  intro s tag id v hready
  refine ⟨fun hid => ?unknown, fun x hid => ⟨fun hlive hmode => ?setup, fun htaken => ?taken⟩⟩
  case unknown => exact exec_request rfl hready rfl (actSet_unknown v (heard s) hid)
  case setup => exact exec_request rfl hready rfl (actSet_setup (s := heard s) v hid hlive hmode)
  have hexec := exec_request (c := .set tag id v) rfl hready rfl
    (actSet_taken (s := heard s) v hid htaken)
  generalize htakes : x.clamp v.toNat = taken at hexec
  have hclamped := x.clamp_eq v.toNat ▸ htakes.symm
  by_cases hwarn : x = .warnLimit ∧ taken ≠ s.params.warnLimit
  · obtain ⟨rfl, hchanged⟩ := hwarn
    obtain ⟨b, hwrite, hslots, hreservation⟩ := writeParam_warnLimit (s := heard s) hchanged
    rw [hwrite] at hexec
    refine ⟨_, taken, hclamped, hexec, rfl, fun y hy => ?others, rfl, rfl, rfl, rfl, rfl, rfl,
      fun i => ?slot, ?reservation, ?link⟩
    case others => exact (Param.read_write s.params taken .warnLimit y).trans (if_neg hy)
    case slot =>
      rw [if_pos rfl]
      simp only [if_neg hchanged]
      exact hslots i
    case reservation =>
      rw [if_pos rfl]
      refine hreservation.trans (congrArg (Option.filter · _) (funext fun i => ?_))
      cases hslot : s.bank.slot i with
      | none => simp [standingChange, hslot]
      | some r => simp [standingChange_isNone hslot, hchanged]
    case link =>
      rw [if_pos ⟨rfl, hchanged⟩]
      rfl
  · have hwrite := writeParam_plain (s := heard s) hwarn
    have hheld : x = .warnLimit → taken = s.params.warnLimit := fun hx =>
      Decidable.byContradiction fun h => hwarn ⟨hx, h⟩
    refine ⟨_, taken, hclamped, hexec, ?_⟩
    rw [hwrite]
    refine ⟨?value, fun y hy => ?others, rfl, rfl, rfl, rfl, rfl, rfl, fun i => ?slot,
      ?reservation, ?link⟩
    case value => exact (Param.read_write s.params taken x x).trans (if_pos rfl)
    case others => exact (Param.read_write s.params taken x y).trans (if_neg hy)
    case slot =>
      by_cases hx : x = .warnLimit
      · simp [hheld hx]
      · rw [if_neg hx]
        rfl
    case reservation =>
      by_cases hx : x = .warnLimit
      · rw [if_pos hx]
        refine (filter_always _).symm.trans (congrArg (Option.filter · _) (funext fun i => ?_))
        cases s.bank.slot i <;> simp [hheld hx]
      · rw [if_neg hx]
        rfl
    case link =>
      rw [if_neg hwarn]
      rfl

end Sys2Proof.Machine
end

section

/-! PROOFS. The end of a reply: the oldest waiting frame taken (O16), and a pending reset applied
(O19). -/

namespace Sys2Proof.Machine

open Sys2Proof

/-! ## No request touches the frames that wait (R175) -/

theorem dispose_frames (w : Work) : (dispose w).link.frames = w.st.link.frames := by
  obtain ⟨q, o, h⟩ := offerAll_frame (restingNotices w.raised) w.st.link
  rw [dispose, h]

theorem dropIneligible_link (i : Nat) (s : State) : (dropIneligible i s).link = s.link := by
  obtain ⟨q, h⟩ := dropIneligible_frame i s
  rw [h]

theorem carryOutWrite_frames (w : WordWrite) (letters : List Letter) (s : State) :
    (carryOutWrite w letters s).link.frames = s.link.frames := by
  rw [carryOutWrite, dispose_frames, dropIneligible_link, (changeRecord_kept _ _ _).link]
  rfl

theorem flushSaid_kept (w : Work) : Kept w.st (flushSaid w).st :=
  (cutHead_kept _ w).trans (Kept.of_eq rfl)

theorem flushClasses_kept (p : EntryClass → Bool) (w : Work) : Kept w.st (flushClasses p w).st :=
  (cutHead_kept p w).trans (Kept.of_eq rfl)

theorem resumeDrill_link (w : Work) : (resumeDrill w).st.link = w.st.link := by
  unfold resumeDrill
  split
  · rfl
  · exact (toPresent_kept _ w).link

theorem writeParam_frames (x : Param) (v : Nat) (s : State) :
    (writeParam x v s).link.frames = s.link.frames := by
  by_cases h : x = .warnLimit ∧ v ≠ s.params.warnLimit
  · obtain ⟨rfl, hchanged⟩ := h
    obtain ⟨b, hwrite, -⟩ := writeParam_warnLimit hchanged
    obtain ⟨q, o, hoffers⟩ := offerAll_frame (standingChanges v s.bank) s.link
    rw [hwrite, hoffers]
  · rw [writeParam_plain h]

section
variable (s : State)

theorem actSet_frames (id : Byte) (v : Word16) :
    (actSet id v s).1.link.frames = s.link.frames := by
  unfold actSet
  split
  · rfl
  · split
    · rfl
    · exact writeParam_frames _ _ s

theorem actWordPut_frames (w : WordWrite) : (actWordPut w s).1.link.frames = s.link.frames := by
  unfold actWordPut
  split
  · rfl
  · split
    · rfl
    · exact carryOutWrite_frames w _ s

theorem actWordPutIf_frames (w : WordWrite) : (actWordPutIf w s).1.link.frames = s.link.frames := by
  unfold actWordPutIf
  split
  · exact carryOutWrite_frames w _ s
  all_goals rfl

theorem actWordDrop_frames (index : Byte) :
    (actWordDrop index s).1.link.frames = s.link.frames := by
  unfold actWordDrop
  repeat' split
  case h_2 => exact congrArg (·.frames) (dropIneligible_link _ _)
  all_goals rfl

theorem actStart_frames : (actStart s).1.link.frames = s.link.frames := by
  unfold actStart
  repeat' split
  case isFalse.isFalse.isFalse.isFalse => exact endEvent_frames _
  all_goals rfl

theorem actPause_frames : (actPause s).1.link.frames = s.link.frames := by
  unfold actPause
  split
  · exact (endEvent_frames _).trans (congrArg (·.frames) (pauseDrill_kept _ s.begin).link)
  · rfl

theorem actResume_frames : (actResume s).1.link.frames = s.link.frames := by
  unfold actResume
  split
  · rfl
  · exact (endEvent_frames _).trans (congrArg (·.frames) (resumeDrill_link s.begin))

theorem actStop_frames : (actStop s).1.link.frames = s.link.frames := by
  unfold actStop
  split
  · rfl
  · exact (endEvent_frames _).trans (congrArg (·.frames) (engineFlush_kept s.begin).link)
  · exact (endEvent_frames _).trans (congrArg (·.frames) (flushClasses_kept _ s.begin).link)

theorem actSay_frames (tag gap : Byte) (clips : List Word16) :
    (actSay tag gap clips s).1.link.frames = s.link.frames := by
  unfold actSay
  dsimp only
  split
  · rfl
  · exact endEvent_frames _

theorem actHush_frames : (actHush s).1.link.frames = s.link.frames := by
  unfold actHush
  dsimp only
  split
  · rfl
  · exact (endEvent_frames _).trans (congrArg (·.frames) (flushSaid_kept s.begin).link)

theorem actGuardClear_frames : (actGuardClear s).1.link.frames = s.link.frames := by
  unfold actGuardClear
  split
  · rfl
  · exact endEvent_frames _

/-- What a request does leaves the frames that wait behind it. -/
theorem act_frames (tag : Byte) (r : Request) : (act tag r s).1.link.frames = s.link.frames := by
  cases r
  case set id v => exact actSet_frames s id v
  case wordPut w => exact actWordPut_frames s w
  case wordPutIf w => exact actWordPutIf_frames s w
  case wordDrop i => exact actWordDrop_frames s i
  case start => exact actStart_frames s
  case pause => exact actPause_frames s
  case resume => exact actResume_frames s
  case stop => exact actStop_frames s
  case say g l => exact actSay_frames s tag g l
  case hush => exact actHush_frames s
  case guardClear => exact actGuardClear_frames s
  case freeStart =>
    dsimp only [act, actFreeStart]
    repeat' split
    · rfl
    · rfl
    · exact dispose_frames _
  all_goals
    dsimp only [act, actHello, actStatus, actResetSoft, actResetFull, actGet, actNoticeMask,
      actWordGet, actQueueLoadList, actQueueLoadGroups, actQueueAdd, actQueueGet, actLessonLimit,
      actJudgementGet, actSlipGet, actKeymap, actKeysets, actReloadClips, actAudioGet, actSleep]
    repeat' split
    all_goals rfl

theorem answer_frames (f : Frame) : (answer f s).1.link.frames = s.link.frames := by
  unfold answer
  split
  · rfl
  · rw [refuseLength_state]
    split <;> rfl
  · exact act_frames s _ _

end

/-! ## The end of a reply (R175, R177) -/

theorem exec_txFrameDone_reply {s : State} {f : Sending} (htx : s.link.tx = some f)
    (hreply : f.isReply = true) :
    exec .txFrameDone s = .next (transmit (replySent { s with link.tx := none })) := by
  simp [exec, execTxFrameDone, frameSent, htx, hreply]

/-- Settles O16: with nothing pending the slot is emptied and the head frame taken, and neither what
the request does nor the transmitter touches the frames behind it. -/
theorem repliesEmptyTheSlot : Obligations.RepliesEmptyTheSlot := by
  intro s f htx hreply hactive hsleep hreset
  have hsent : exec .txFrameDone s = .next (transmit (takeWaiting (replyGone s))) := by
    rw [exec_txFrameDone_reply htx hreply]
    exact congrArg (fun t => Host.Outcome.next (transmit t))
      (replySent_plain (s := { s with link.tx := none }) hsleep hactive hreset)
  refine ⟨fun hframes => ?none, fun g gs hframes => ?next⟩
  case none => rw [hsent, takeWaiting_nothing (s := replyGone s) hframes]; rfl
  case next =>
    have htake : canTake (replyGone s) = true := canTake_iff.mpr ⟨hactive, rfl, hsleep, hreset⟩
    have htaken := takeWaiting_cons htake hframes
    refine ⟨_, (answer g { replyGone s with link.frames := gs }).2, hsent, ?_, ?_⟩
    · rw [transmit_frames, htaken, takeFrame, placeReply_frames, answer_frames]
    · rw [transmit_reply, htaken]
      rfl

/-! ## A pending reset applied (R187, R188) -/

/-- With nothing to say and nothing for the drill to do, a requested probe can start at the end of
an event, and nothing else follows (R132). -/
theorem endEvent_silent {s : State} (hqueue : s.speech.queue = [])
    (hplayer : s.speech.player = .idle ∨ s.speech.player = .held) (hdrill : drillRests s = true) :
    ∃ player probe stale, endEvent s.begin =
      { s with speech := { s.speech with player := player }
               out := { s.out with probe := probe, stale := stale } } := by
  rcases hplayer with hidle | hheld
  · have hnext : nextPlayer s s.out.probe s.speech.queue =
        some (if s.out.probe = .requested then .held else .idle) := hqueue ▸ nextPlayer_nil s _
    rw [endEvent, runToRest_playerTurn (w := s.begin) hidle hnext hdrill,
      dispose_silent (playerTurn_raised _ _)]
    split
    · exact ⟨.held, .running, false, rfl⟩
    · exact ⟨s.speech.player, s.out.probe, s.out.stale, rfl⟩
  · exact ⟨s.speech.player, s.out.probe, s.out.stale,
      endEvent_begin (atRest_iff.mpr ⟨playerRests_held hheld, hdrill⟩)⟩

/-- The part as the reset itself leaves it, before what follows in the event. -/
def resetBy (k : ResetKind) (s : State) : State :=
  match k with
  | .soft => softReset s
  | .full => fullReset s

theorem resetBy_queue (k : ResetKind) (s : State) : (resetBy k s).speech.queue = [] := by
  cases k <;> rfl

theorem resetBy_player (k : ResetKind) (s : State) :
    (resetBy k s).speech.player = .idle ∨ (resetBy k s).speech.player = .held := by
  have hplayer : (resetBy k s).speech.player =
      if s.speech.player = .held then .held else .idle := by
    cases k <;> rfl
  rw [hplayer]
  split
  · exact .inr rfl
  · exact .inl rfl

theorem drillRests_resetBy (k : ResetKind) (s : State) : drillRests (resetBy k s) = true := by
  have hscript : (resetBy k s).drill.script = [] := by cases k <;> rfl
  have hfifo : (resetBy k s).keys.fifo = [] := by cases k <;> rfl
  have hphase : (resetBy k s).drill.phase = .noPhase := by cases k <;> rfl
  refine drillRests_iff.mpr ⟨?_, ?_, ?_⟩
  · simp [feedDue, hscript]
  · simp [keyDue, hfifo]
  · simp [speechOver, waitsOn, hphase]

/-- A reset closes the playing entry at most: load, JACK state and guard stay (R149, R187). -/
theorem resetBy_out (k : ResetKind) (s : State) : (resetBy k s).out.load = s.out.load ∧
    (resetBy k s).out.jack = s.out.jack ∧ (resetBy k s).out.tripped = s.out.tripped := by
  have hout : (resetBy k s).out = (resetSpeech s).out := by cases k <;> rfl
  rw [hout, resetSpeech]
  dsimp only
  split
  · exact closeEntry_load _ _
  · exact ⟨rfl, rfl, rfl⟩

/-- The part at the end of the reply that a reset waits on: of what the reset leaves, the rest of
the event changes the player, the probe and the transmitter alone. -/
def resetDone (k : ResetKind) (player : Player) (probe : Probe) (stale : Bool) (tx : Option Sending)
    (s : State) : State :=
  let r := resetBy k (replyGone s)
  { r with link := { r.link with tx := tx }
           speech := { r.speech with player := player }
           out := { r.out with probe := probe, stale := stale } }

theorem exec_txFrameDone_reset {s : State} {f : Sending} {k : ResetKind}
    (htx : s.link.tx = some f) (hreply : f.isReply = true) (hactive : s.power.power = .active)
    (hsleep : s.power.sleepPending = false) (hreset : s.link.resetPending = some k)
    (hframes : s.link.frames = []) : ∃ player probe stale tx,
      exec .txFrameDone s = .next (resetDone k player probe stale tx s) := by
  obtain ⟨player, probe, stale, hend⟩ := endEvent_silent (resetBy_queue k (replyGone s))
    (resetBy_player k (replyGone s)) (drillRests_resetBy k (replyGone s))
  have hnone : (endEvent (resetBy k (replyGone s)).begin).link.frames = [] := by
    rw [endEvent_frames]
    cases k <;> exact hframes
  have hsent : replySent { s with link.tx := none } =
      takeWaiting (endEvent (resetBy k (replyGone s)).begin) := by
    have happly : applyReset k (replyGone s) = endEvent (resetBy k (replyGone s)).begin := by
      cases k <;> rfl
    rw [← happly]
    simp only [replySent, hsleep, hactive, hreset, if_true]
    rfl
  obtain ⟨tx, htransmit⟩ := transmit_frame (endEvent (resetBy k (replyGone s)).begin)
  refine ⟨player, probe, stale, tx, ?_⟩
  rw [exec_txFrameDone_reply htx hreply, hsent, takeWaiting_nothing hnone, htransmit, hend]
  rfl

section
variable (k : ResetKind) (player : Player) (probe : Probe) (stale : Bool) (tx : Option Sending)
  (s : State)

theorem resetDone_cleared : ResetCleared (resetDone k player probe stale tx s) := by
  cases k <;> exact ⟨rfl, ⟨rfl, rfl⟩, rfl, ⟨rfl, rfl⟩, rfl, rfl, rfl, rfl, ⟨rfl, rfl⟩⟩

theorem resetDone_kept (hactive : s.power.power = .active) :
    ResetKept s (resetDone k player probe stale tx s) where
  keys := by cases k <;> exact ⟨rfl, rfl, rfl⟩
  out := resetBy_out k (replyGone s)
  power := by cases k <;> exact ⟨rfl, rfl, hactive⟩
  link := by cases k <;> exact ⟨rfl, rfl, rfl⟩

end

/-- Settles O19: both resets end in `resetDone`, which clears and keeps what they share; the rest is
what `softReset` keeps and `fullReset` returns to its default. -/
theorem pendingResetsAreApplied : Obligations.PendingResetsAreApplied := by
  refine ⟨fun s f htx hreply hactive hsleep hreset hframes => ?soft,
    fun s f htx hreply hactive hsleep hreset hframes => ?full⟩
  case soft =>
    obtain ⟨player, probe, stale, tx, hexec⟩ :=
      exec_txFrameDone_reset htx hreply hactive hsleep hreset hframes
    exact ⟨_, hexec, resetDone_cleared .soft player probe stale tx s,
      resetDone_kept .soft player probe stale tx s hactive, rfl, rfl, rfl, rfl, rfl, rfl, rfl, rfl,
      rfl⟩
  case full =>
    obtain ⟨player, probe, stale, tx, hexec⟩ :=
      exec_txFrameDone_reset htx hreply hactive hsleep hreset hframes
    have hempty (i : Nat) :
        WordBank.slot { slots := Vector.replicate 96 none, reservation := none } i = none := by
      rw [WordBank.slot]
      split
      · exact Vector.getElem_replicate _
      · rfl
    exact ⟨_, hexec, resetDone_cleared .full player probe stale tx s,
      resetDone_kept .full player probe stale tx s hactive, hempty, rfl, rfl, rfl, rfl, rfl, rfl⟩

end Sys2Proof.Machine
end

section

/-! PROOFS. The queue of commands: none touches the commands that wait behind it (O3), and a step
takes the one at the front (O1). -/

namespace Sys2Proof.Machine

open Sys2Proof

/-! ## The ends of events -/

theorem runToRest_pending (w : Work) : (runToRest w).st.pending = w.st.pending :=
  (runOn_kept cascadeFuel w).pending

theorem endEvent_pending (w : Work) : (endEvent w).pending = w.st.pending := runToRest_pending w

theorem conclude_pending (w : Work) : (conclude w).pending = w.st.pending :=
  (transmit_pending _).trans (endEvent_pending w)

/-! ## Requests (R175) -/

theorem dropIneligible_pending (i : Nat) (s : State) :
    (dropIneligible i s).pending = s.pending := by
  obtain ⟨q, h⟩ := dropIneligible_frame i s
  rw [h]

theorem carryOutWrite_pending (w : WordWrite) (letters : List Letter) (s : State) :
    (carryOutWrite w letters s).pending = s.pending := by
  rw [carryOutWrite, dispose_pending, dropIneligible_pending, (changeRecord_kept _ _ _).pending]
  rfl

theorem writeParam_pending (x : Param) (v : Nat) (s : State) :
    (writeParam x v s).pending = s.pending := by
  by_cases h : x = .warnLimit ∧ v ≠ s.params.warnLimit
  · obtain ⟨rfl, hchanged⟩ := h
    obtain ⟨b, hwrite, -⟩ := writeParam_warnLimit hchanged
    rw [hwrite]
  · rw [writeParam_plain h]

theorem resumeDrill_pending (w : Work) : (resumeDrill w).st.pending = w.st.pending := by
  unfold resumeDrill
  split
  · rfl
  · exact (toPresent_kept _ w).pending

theorem stopLesson_pending (w : Work) : (stopLesson w).st.pending = w.st.pending :=
  (engineFlush_kept w).pending

theorem stopFree_pending (w : Work) : (stopFree w).st.pending = w.st.pending :=
  (flushClasses_kept freeClass w).pending

/-- A request writes the WORD BANK or a parameter, or runs an event on to its rest, or writes fields
of the blocks and no more. -/
theorem act_pending (tag : Byte) (r : Request) (s : State) :
    (act tag r s).1.pending = s.pending := by
  cases r
  case set | wordPut | wordPutIf | wordDrop =>
    dsimp only [act, actSet, actWordPut, actWordPutIf, actWordDrop, refuse, okay, emptyReservation]
    repeat' split
    all_goals simp only [writeParam_pending, carryOutWrite_pending, dropIneligible_pending]
  case start | pause | resume | stop | say | hush | guardClear =>
    dsimp only [act, actStart, actPause, actResume, actStop, actSay, actHush, actGuardClear, refuse,
      okay]
    repeat' split
    all_goals simp only [endEvent_pending, enterOpening, enterPhase_pending, State.begin_st,
      (pauseDrill_kept _ _).pending, resumeDrill_pending, stopLesson_pending, stopFree_pending,
      (flushSaid_kept _).pending]
  all_goals
    dsimp only [act, actHello, actStatus, actResetSoft, actResetFull, actGet, actNoticeMask,
      actWordGet, actQueueLoadList, actQueueLoadGroups, actQueueAdd, actQueueGet, actFreeStart,
      actLessonLimit, actJudgementGet, actSlipGet, actKeymap, actKeysets, actReloadClips,
      actAudioGet, actSleep]
    repeat' split
    all_goals rfl

/-! ## Frames (R171 to R177) -/

theorem refuseLength_pending (kind : Byte) (s : State) :
    (refuseLength kind s).1.pending = s.pending := by
  rw [refuseLength_state]
  split <;> rfl

theorem takeFrame_pending (f : Frame) (s : State) : (takeFrame f s).pending = s.pending := by
  rw [takeFrame, placeReply_pending]
  unfold answer
  split
  · rfl
  · exact refuseLength_pending _ s
  · exact act_pending _ _ s

theorem takeWaiting_pending (s : State) : (takeWaiting s).pending = s.pending := by
  unfold takeWaiting
  split
  · split
    · rfl
    · exact takeFrame_pending _ _
  · rfl

theorem linkFault_pending (cause : LinkCause) (kind : Option Byte) (rx : Receiver) (s : State) :
    (linkFault cause kind rx s).pending = s.pending := by
  obtain ⟨l, h⟩ := linkFault_frame cause kind rx s
  rw [h]

theorem frameByte_pending (bs : List Byte) (b : Byte) (s : State) :
    (frameByte bs b s).pending = s.pending := by
  unfold frameByte
  split
  · split
    · exact linkFault_pending _ _ _ s
    · rfl
  · split
    · rfl
    · split
      · exact (transmit_pending _).trans (takeWaiting_pending _)
      · exact linkFault_pending _ _ _ s
  · rfl

theorem receive_pending (b : Byte) (s : State) : (receive b s).pending = s.pending := by
  unfold receive
  dsimp only
  split
  · split <;> rfl
  · split
    case h_1 =>
      split
      · split
        · exact linkFault_pending _ _ _ _
        · rfl
      · rfl
    case h_2 =>
      split
      · exact linkFault_pending _ _ _ _
      · exact frameByte_pending _ b _
    all_goals rfl

theorem receiveAll_pending (bs : List Byte) (s : State) :
    (receiveAll bs s).pending = s.pending := by
  induction bs generalizing s with
  | nil => rfl
  | cons b bs ih => rw [receiveAll_cons, ih, receive_pending]

theorem deliver_pending (tag : Byte) (r : Request) (s : State) :
    (deliver tag r s).pending = s.pending := by
  unfold deliver
  split
  · rw [transmit_pending, placeReply_pending]
    split
    · exact act_pending tag r _
    · exact refuseLength_pending _ _
  · exact receiveAll_pending _ s

theorem deliverFrame_pending (f : Frame) (s : State) : (deliverFrame f s).pending = s.pending := by
  unfold deliverFrame
  split
  · exact (transmit_pending _).trans (takeFrame_pending f _)
  · exact receiveAll_pending _ s

/-! ## Resets and the entry to SLEEP (R164, R187, R188) -/

theorem applyReset_pending (k : ResetKind) (s : State) : (applyReset k s).pending = s.pending := by
  unfold applyReset
  rw [endEvent_pending]
  cases k <;> rfl

theorem fullFlush_kept (w : Work) : Kept w.st (fullFlush w).st :=
  (engineFlush_kept w).trans (flushSaid_kept _)

theorem enterSleep_pending (w : Work) : (enterSleep w).st.pending = w.st.pending :=
  (fullFlush_kept w).pending

theorem replySent_pending (s : State) : (replySent s).pending = s.pending := by
  unfold replySent
  dsimp only
  repeat' split
  · exact enterSleep_pending _
  · exact (takeWaiting_pending _).trans (applyReset_pending _ _)
  · exact takeWaiting_pending _
  · rfl

theorem frameSent_pending (s : State) : (frameSent s).pending = s.pending := by
  unfold frameSent
  split
  · rfl
  · dsimp only
    split
    · exact (transmit_pending _).trans (replySent_pending _)
    · exact transmit_pending _

/-! ## Scans (R93, R98) -/

theorem offerKey_pending (e : KeyEvent) (s : State) : (offerKey e s).pending = s.pending := by
  unfold offerKey
  repeat' split
  all_goals rfl

theorem press_pending (pos : Nat) (s : State) : (press pos s).st.pending = s.pending := by
  unfold press
  dsimp only
  repeat' split
  · rfl
  · exact offerKey_pending _ s
  · rfl

theorem pressesInTurn_pending (presses : List Nat) (s : State) :
    (presses.foldl (fun t p => endEvent (press p t)) s).pending = s.pending := by
  induction presses generalizing s with
  | nil => rfl
  | cons p presses ih => rw [List.foldl_cons, ih, endEvent_pending, press_pending]

theorem fullScan_pending (levels : BitVec 48) (s : State) :
    (fullScan levels s).pending = s.pending := by
  unfold fullScan handlePresses
  dsimp only
  repeat' split
  · rfl
  · rfl
  · exact (endEvent_pending _).trans (offerKey_pending _ _)
  · exact pressesInTurn_pending _ _

theorem slowScan_pending (levels : BitVec 48) (s : State) :
    (slowScan levels s).pending = s.pending := by
  rw [slowScan_eq]

/-! ## The drill's events (R80, R117, R119, R155, R159, R168) -/

theorem audioFault_pending (w : Work) : (audioFault w).st.pending = w.st.pending := by
  unfold audioFault
  repeat' split
  · exact (pauseDrill_kept _ w).pending
  · rfl
  · rfl

theorem probeResult_pending (stale : Bool) (l : Load) (w : Work) :
    (probeResult stale l w).st.pending = w.st.pending := by
  unfold probeResult
  repeat' split
  · rfl
  · exact (pauseDrill_kept _ w).pending
  · exact (toPresent_kept _ w).pending
  · exact audioFault_pending w
  · rfl

theorem probeEnds_pending (w : Work) : (probeEnds w).st.pending = w.st.pending := by
  unfold probeEnds
  split <;> rfl

theorem endRead_pending (bytes : List Byte) (s : State) :
    (endRead bytes s).pending = s.pending := by
  unfold endRead
  split <;> exact finish_pending _

theorem settleEnds_pending (s : State) : (settleEnds s).pending = s.pending := by
  unfold settleEnds
  dsimp only
  split
  · exact applyReset_pending _ _
  · rfl

theorem wakeBlocks_pending (jack : Jack) (s : State) :
    (wakeBlocks jack s).st.pending = s.pending := by
  unfold wakeBlocks
  dsimp only
  split
  · exact (toPresent_kept _ _).pending
  · rfl

theorem guardTrips_pending (clip : Nat) (s : State) : (guardTrips clip s).pending = s.pending := by
  unfold guardTrips
  rw [conclude_pending, audioFault_pending, (fullFlush_kept _).pending]
  rfl

theorem countSurge_pending (clip : Nat) (s : State) : (countSurge clip s).pending = s.pending := by
  unfold countSurge
  dsimp only
  repeat' split
  · rfl
  · exact finish_pending _
  · exact guardTrips_pending clip _

theorem nudge_pending (stage : Nat) (s : State) : (nudge stage s).st.pending = s.pending := by
  unfold nudge placeWordClip
  dsimp only
  rw [Work.raise_st]
  split
  · exact (place_kept _ _).pending.trans (place_kept _ _).pending
  · exact (place_kept _ _).pending

theorem attentionStage3_pending (s : State) : (attentionStage3 s).st.pending = s.pending :=
  (pauseDrill_kept _ _).pending

/-! ## Every command, and a step -/

/-- An event that the state rules out leaves the state (notes/assumptions/5.md), so what it does
where it can happen decides. -/
theorem pending_of_event {s t : State} {c : Prop} [Decidable c] (h : t.pending = s.pending) :
    (if c then t else s).pending = s.pending := by
  split
  · exact h
  · rfl

/-- A command that is no request is a reset, a byte or frame of the link, a scan, or an event of the
part's own; a request is its frame delivered. -/
theorem exec_keepsWaiting (c : Instr) (s : State) :
    ∃ t, exec c s = .next t ∧ t.pending = s.pending := by
  cases hrequest : c.request? with
  | some row => exact ⟨_, exec_of_request? hrequest s, deliver_pending _ _ s⟩
  | none =>
    cases c
    case powerOnReset | pinReset => exact ⟨_, rfl, rfl⟩
    case rxByte b => exact ⟨_, rfl, receive_pending b s⟩
    case rxTimeout =>
      refine ⟨_, rfl, ?_⟩
      split
      · exact pending_of_event (linkFault_pending _ _ _ s)
      · rfl
    case overflowDiscardTimeout | wakeFrameTimeout => exact ⟨_, rfl, pending_of_event rfl⟩
    case txFrameDone => exact ⟨_, rfl, frameSent_pending s⟩
    case unknownKind => exact ⟨_, rfl, deliverFrame_pending _ s⟩
    case directoryReadDone bytes => exact ⟨_, rfl, pending_of_event (endRead_pending bytes s)⟩
    case keyScan levels =>
      exact ⟨_, rfl, pending_of_event ((transmit_pending _).trans (fullScan_pending levels s))⟩
    case slowKeyScan levels =>
      exact ⟨_, rfl, pending_of_event (slowScan_pending levels s)⟩
    case wakeSettleEnd jack =>
      refine ⟨_, rfl, pending_of_event ?_⟩
      rw [transmit_pending, takeWaiting_pending, endEvent_pending, wakeBlocks_pending,
        settleEnds_pending]
    case jackChange => exact ⟨_, rfl, pending_of_event (conclude_pending _)⟩
    case loadProbeDone =>
      refine ⟨_, rfl, pending_of_event ?_⟩
      rw [conclude_pending, probeEnds_pending, runToRest_pending, probeResult_pending]
      rfl
    case surgeEvent =>
      refine ⟨_, rfl, ?_⟩
      split
      · exact pending_of_event (countSurge_pending _ s)
      · rfl
    case gapEnd =>
      refine ⟨_, rfl, ?_⟩
      split
      · exact (conclude_pending _).trans (enterPlay_kept s.begin).pending
      · rfl
    case sampleOut =>
      refine ⟨_, rfl, ?_⟩
      split
      · exact pending_of_event rfl
      · rfl
    case entryEnd =>
      refine ⟨_, rfl, ?_⟩
      split
      · exact pending_of_event ((conclude_pending _).trans (leaveHead_kept _ s.begin).pending)
      · rfl
    case lessonSecond => exact ⟨_, rfl, pending_of_event rfl⟩
    case attentionNudge =>
      exact ⟨_, rfl, pending_of_event ((conclude_pending _).trans (nudge_pending _ s))⟩
    case attentionPause =>
      have hrest : (runToRest (attentionStage3 s)).st.pending = s.pending :=
        (runToRest_pending _).trans (attentionStage3_pending s)
      refine ⟨_, rfl, pending_of_event ?_⟩
      dsimp only
      split
      · rw [finish_pending, enterSleep_pending, hrest]
      · rw [finish_pending, hrest]
    all_goals cases hrequest

/-- Settles O3: every arm of `exec` answers a next state, and no operation that an arm is made of
writes the queue of commands (`exec_keepsWaiting`). -/
theorem commandsCompleteAndKeepTheQueue : Obligations.CommandsCompleteAndKeepTheQueue :=
  exec_keepsWaiting

/-- Settles O1: on a queue that is not empty `step` is `exec` of its head by definition, whatever
the state. -/
theorem stepTakesTheFrontCommand : Obligations.StepTakesTheFrontCommand := by
  intro c cs s
  rfl

end Sys2Proof.Machine
end
